-- ==== Sys2Proof/Word.lean ====
section
/-! DEFINITION. The byte and the address: every register is 8 bits but the program counter, which is 16, and
memory is addressed by 16 bits (00_scope R8). -/

namespace Sys2Proof

abbrev Byte := BitVec 8

abbrev Word := BitVec 16

end Sys2Proof
end

