-- ==== Sys2Proof/Syntax.lean ====
section
/-! DEFINITION. The instruction set as syntax: the 56 mnemonics, the addressing modes with their operands,
and one constructor of `Instr` per row of spec/opcode_table.json (30_encoding R71 to R76). -/

namespace Sys2Proof

/-- The 56 mnemonics (00_scope R2), in the order of R2's categories. -/
inductive Mnemonic where
  | LDA | LDX | LDY | STA | STX | STY | TAX | TAY | TXA | TYA | TSX | TXS
  | INC | DEC | INX | INY | DEX | DEY | ASL | LSR | ROL | ROR | AND | ORA
  | EOR | CMP | CPX | CPY | BIT | BCC | BCS | BEQ | BNE | BMI | BPL | BVC
  | BVS | CLC | SEC | CLI | SEI | CLD | SED | CLV | PHA | PLA | PHP | PLP
  | JMP | JSR | RTS | RTI | BRK | NOP | ADC | SBC
  deriving DecidableEq, Repr

/-- The thirteen hardware addressing modes by name (30_encoding R73). -/
inductive ModeKind where
  | imp | acc | imm | zp | zpx | zpy | abs | absx | absy | indx | indy | ind | rel
  deriving DecidableEq, Repr

/-- The memory modes: those that name a data address, with the operand byte `op8` or word `op16`
(30_encoding R73, R74). -/
inductive AddrMode where
  | zp (a : Byte) | zpx (a : Byte) | zpy (a : Byte)
  | abs (a : Word) | absx (a : Word) | absy (a : Word)
  | indx (a : Byte) | indy (a : Byte)
  deriving DecidableEq, Repr

/-- An addressing mode with its operand (30_encoding R73). -/
inductive Mode where
  | imp
  | acc
  | imm (v : Byte)
  | mem (m : AddrMode)
  | ind (a : Word)
  | rel (off : Byte)
  deriving DecidableEq, Repr

/-- The operand of an instruction that reads one: the immediate byte or a memory mode (40_execution_cycle R103). -/
inductive Operand where
  | imm (v : Byte)
  | mem (m : AddrMode)
  deriving DecidableEq, Repr

def AddrMode.kind : AddrMode → ModeKind
  | .zp _ => .zp | .zpx _ => .zpx | .zpy _ => .zpy
  | .abs _ => .abs | .absx _ => .absx | .absy _ => .absy
  | .indx _ => .indx | .indy _ => .indy

def Mode.kind : Mode → ModeKind
  | .imp => .imp
  | .acc => .acc
  | .imm _ => .imm
  | .mem m => m.kind
  | .ind _ => .ind
  | .rel _ => .rel

def Operand.mode : Operand → Mode
  | .imm v => .imm v
  | .mem m => .mem m

/-- The instructions: one constructor per row of spec/opcode_table.json, named by mnemonic and mode, with its
operand byte or word (30_encoding R76). Every operand value the encoding admits is a value of the operand's type. -/
inductive Instr where
  -- LDA (43_load_store_transfer R156)
  | ldaImm (v : Byte)
  | ldaZp (a : Byte)
  | ldaZpx (a : Byte)
  | ldaAbs (a : Word)
  | ldaAbsx (a : Word)
  | ldaAbsy (a : Word)
  | ldaIndx (a : Byte)
  | ldaIndy (a : Byte)
  -- LDX (43_load_store_transfer R157)
  | ldxImm (v : Byte)
  | ldxZp (a : Byte)
  | ldxZpy (a : Byte)
  | ldxAbs (a : Word)
  | ldxAbsy (a : Word)
  -- LDY (43_load_store_transfer R158)
  | ldyImm (v : Byte)
  | ldyZp (a : Byte)
  | ldyZpx (a : Byte)
  | ldyAbs (a : Word)
  | ldyAbsx (a : Word)
  -- STA (43_load_store_transfer R159)
  | staZp (a : Byte)
  | staZpx (a : Byte)
  | staAbs (a : Word)
  | staAbsx (a : Word)
  | staAbsy (a : Word)
  | staIndx (a : Byte)
  | staIndy (a : Byte)
  -- STX (43_load_store_transfer R160)
  | stxZp (a : Byte)
  | stxZpy (a : Byte)
  | stxAbs (a : Word)
  -- STY (43_load_store_transfer R161)
  | styZp (a : Byte)
  | styZpx (a : Byte)
  | styAbs (a : Word)
  -- TAX (43_load_store_transfer R162)
  | tax
  -- TAY (43_load_store_transfer R163)
  | tay
  -- TXA (43_load_store_transfer R164)
  | txa
  -- TYA (43_load_store_transfer R165)
  | tya
  -- TSX (43_load_store_transfer R166)
  | tsx
  -- TXS (43_load_store_transfer R167)
  | txs
  -- INC (44_incdec_shift R171)
  | incZp (a : Byte)
  | incZpx (a : Byte)
  | incAbs (a : Word)
  | incAbsx (a : Word)
  -- DEC (44_incdec_shift R172)
  | decZp (a : Byte)
  | decZpx (a : Byte)
  | decAbs (a : Word)
  | decAbsx (a : Word)
  -- INX (44_incdec_shift R173)
  | inx
  -- INY (44_incdec_shift R174)
  | iny
  -- DEX (44_incdec_shift R175)
  | dex
  -- DEY (44_incdec_shift R176)
  | dey
  -- ASL (44_incdec_shift R177)
  | aslAcc
  | aslZp (a : Byte)
  | aslZpx (a : Byte)
  | aslAbs (a : Word)
  | aslAbsx (a : Word)
  -- LSR (44_incdec_shift R178)
  | lsrAcc
  | lsrZp (a : Byte)
  | lsrZpx (a : Byte)
  | lsrAbs (a : Word)
  | lsrAbsx (a : Word)
  -- ROL (44_incdec_shift R179)
  | rolAcc
  | rolZp (a : Byte)
  | rolZpx (a : Byte)
  | rolAbs (a : Word)
  | rolAbsx (a : Word)
  -- ROR (44_incdec_shift R180)
  | rorAcc
  | rorZp (a : Byte)
  | rorZpx (a : Byte)
  | rorAbs (a : Word)
  | rorAbsx (a : Word)
  -- AND (45_logic_compare_bit R186)
  | andImm (v : Byte)
  | andZp (a : Byte)
  | andZpx (a : Byte)
  | andAbs (a : Word)
  | andAbsx (a : Word)
  | andAbsy (a : Word)
  | andIndx (a : Byte)
  | andIndy (a : Byte)
  -- ORA (45_logic_compare_bit R187)
  | oraImm (v : Byte)
  | oraZp (a : Byte)
  | oraZpx (a : Byte)
  | oraAbs (a : Word)
  | oraAbsx (a : Word)
  | oraAbsy (a : Word)
  | oraIndx (a : Byte)
  | oraIndy (a : Byte)
  -- EOR (45_logic_compare_bit R188)
  | eorImm (v : Byte)
  | eorZp (a : Byte)
  | eorZpx (a : Byte)
  | eorAbs (a : Word)
  | eorAbsx (a : Word)
  | eorAbsy (a : Word)
  | eorIndx (a : Byte)
  | eorIndy (a : Byte)
  -- CMP (45_logic_compare_bit R189)
  | cmpImm (v : Byte)
  | cmpZp (a : Byte)
  | cmpZpx (a : Byte)
  | cmpAbs (a : Word)
  | cmpAbsx (a : Word)
  | cmpAbsy (a : Word)
  | cmpIndx (a : Byte)
  | cmpIndy (a : Byte)
  -- CPX (45_logic_compare_bit R190)
  | cpxImm (v : Byte)
  | cpxZp (a : Byte)
  | cpxAbs (a : Word)
  -- CPY (45_logic_compare_bit R191)
  | cpyImm (v : Byte)
  | cpyZp (a : Byte)
  | cpyAbs (a : Word)
  -- BIT (45_logic_compare_bit R192)
  | bitZp (a : Byte)
  | bitAbs (a : Word)
  -- BCC (46_branch_flag R197)
  | bcc (off : Byte)
  -- BCS (46_branch_flag R198)
  | bcs (off : Byte)
  -- BEQ (46_branch_flag R199)
  | beq (off : Byte)
  -- BNE (46_branch_flag R200)
  | bne (off : Byte)
  -- BMI (46_branch_flag R201)
  | bmi (off : Byte)
  -- BPL (46_branch_flag R202)
  | bpl (off : Byte)
  -- BVC (46_branch_flag R203)
  | bvc (off : Byte)
  -- BVS (46_branch_flag R204)
  | bvs (off : Byte)
  -- CLC (46_branch_flag R205)
  | clc
  -- SEC (46_branch_flag R206)
  | sec
  -- CLI (46_branch_flag R207)
  | cli
  -- SEI (46_branch_flag R208)
  | sei
  -- CLD (46_branch_flag R209)
  | cld
  -- SED (46_branch_flag R210)
  | sed
  -- CLV (46_branch_flag R211)
  | clv
  -- PHA (47_stack_control R216)
  | pha
  -- PLA (47_stack_control R217)
  | pla
  -- PHP (47_stack_control R218)
  | php
  -- PLP (47_stack_control R219)
  | plp
  -- JMP (47_stack_control R220)
  | jmpAbs (a : Word)
  | jmpInd (a : Word)
  -- JSR (47_stack_control R221)
  | jsr (a : Word)
  -- RTS (47_stack_control R222)
  | rts
  -- RTI (47_stack_control R223)
  | rti
  -- BRK (47_stack_control R224)
  | brk
  -- NOP (47_stack_control R225)
  | nop
  -- ADC (48_arithmetic R231)
  | adcImm (v : Byte)
  | adcZp (a : Byte)
  | adcZpx (a : Byte)
  | adcAbs (a : Word)
  | adcAbsx (a : Word)
  | adcAbsy (a : Word)
  | adcIndx (a : Byte)
  | adcIndy (a : Byte)
  -- SBC (48_arithmetic R232)
  | sbcImm (v : Byte)
  | sbcZp (a : Byte)
  | sbcZpx (a : Byte)
  | sbcAbs (a : Word)
  | sbcAbsx (a : Word)
  | sbcAbsy (a : Word)
  | sbcIndx (a : Byte)
  | sbcIndy (a : Byte)
  deriving DecidableEq, Repr

/-- The mnemonic of an instruction. -/
def Instr.mnemonic : Instr → Mnemonic
  | .ldaImm _ => .LDA
  | .ldaZp _ => .LDA
  | .ldaZpx _ => .LDA
  | .ldaAbs _ => .LDA
  | .ldaAbsx _ => .LDA
  | .ldaAbsy _ => .LDA
  | .ldaIndx _ => .LDA
  | .ldaIndy _ => .LDA
  | .ldxImm _ => .LDX
  | .ldxZp _ => .LDX
  | .ldxZpy _ => .LDX
  | .ldxAbs _ => .LDX
  | .ldxAbsy _ => .LDX
  | .ldyImm _ => .LDY
  | .ldyZp _ => .LDY
  | .ldyZpx _ => .LDY
  | .ldyAbs _ => .LDY
  | .ldyAbsx _ => .LDY
  | .staZp _ => .STA
  | .staZpx _ => .STA
  | .staAbs _ => .STA
  | .staAbsx _ => .STA
  | .staAbsy _ => .STA
  | .staIndx _ => .STA
  | .staIndy _ => .STA
  | .stxZp _ => .STX
  | .stxZpy _ => .STX
  | .stxAbs _ => .STX
  | .styZp _ => .STY
  | .styZpx _ => .STY
  | .styAbs _ => .STY
  | .tax => .TAX
  | .tay => .TAY
  | .txa => .TXA
  | .tya => .TYA
  | .tsx => .TSX
  | .txs => .TXS
  | .incZp _ => .INC
  | .incZpx _ => .INC
  | .incAbs _ => .INC
  | .incAbsx _ => .INC
  | .decZp _ => .DEC
  | .decZpx _ => .DEC
  | .decAbs _ => .DEC
  | .decAbsx _ => .DEC
  | .inx => .INX
  | .iny => .INY
  | .dex => .DEX
  | .dey => .DEY
  | .aslAcc => .ASL
  | .aslZp _ => .ASL
  | .aslZpx _ => .ASL
  | .aslAbs _ => .ASL
  | .aslAbsx _ => .ASL
  | .lsrAcc => .LSR
  | .lsrZp _ => .LSR
  | .lsrZpx _ => .LSR
  | .lsrAbs _ => .LSR
  | .lsrAbsx _ => .LSR
  | .rolAcc => .ROL
  | .rolZp _ => .ROL
  | .rolZpx _ => .ROL
  | .rolAbs _ => .ROL
  | .rolAbsx _ => .ROL
  | .rorAcc => .ROR
  | .rorZp _ => .ROR
  | .rorZpx _ => .ROR
  | .rorAbs _ => .ROR
  | .rorAbsx _ => .ROR
  | .andImm _ => .AND
  | .andZp _ => .AND
  | .andZpx _ => .AND
  | .andAbs _ => .AND
  | .andAbsx _ => .AND
  | .andAbsy _ => .AND
  | .andIndx _ => .AND
  | .andIndy _ => .AND
  | .oraImm _ => .ORA
  | .oraZp _ => .ORA
  | .oraZpx _ => .ORA
  | .oraAbs _ => .ORA
  | .oraAbsx _ => .ORA
  | .oraAbsy _ => .ORA
  | .oraIndx _ => .ORA
  | .oraIndy _ => .ORA
  | .eorImm _ => .EOR
  | .eorZp _ => .EOR
  | .eorZpx _ => .EOR
  | .eorAbs _ => .EOR
  | .eorAbsx _ => .EOR
  | .eorAbsy _ => .EOR
  | .eorIndx _ => .EOR
  | .eorIndy _ => .EOR
  | .cmpImm _ => .CMP
  | .cmpZp _ => .CMP
  | .cmpZpx _ => .CMP
  | .cmpAbs _ => .CMP
  | .cmpAbsx _ => .CMP
  | .cmpAbsy _ => .CMP
  | .cmpIndx _ => .CMP
  | .cmpIndy _ => .CMP
  | .cpxImm _ => .CPX
  | .cpxZp _ => .CPX
  | .cpxAbs _ => .CPX
  | .cpyImm _ => .CPY
  | .cpyZp _ => .CPY
  | .cpyAbs _ => .CPY
  | .bitZp _ => .BIT
  | .bitAbs _ => .BIT
  | .bcc _ => .BCC
  | .bcs _ => .BCS
  | .beq _ => .BEQ
  | .bne _ => .BNE
  | .bmi _ => .BMI
  | .bpl _ => .BPL
  | .bvc _ => .BVC
  | .bvs _ => .BVS
  | .clc => .CLC
  | .sec => .SEC
  | .cli => .CLI
  | .sei => .SEI
  | .cld => .CLD
  | .sed => .SED
  | .clv => .CLV
  | .pha => .PHA
  | .pla => .PLA
  | .php => .PHP
  | .plp => .PLP
  | .jmpAbs _ => .JMP
  | .jmpInd _ => .JMP
  | .jsr _ => .JSR
  | .rts => .RTS
  | .rti => .RTI
  | .brk => .BRK
  | .nop => .NOP
  | .adcImm _ => .ADC
  | .adcZp _ => .ADC
  | .adcZpx _ => .ADC
  | .adcAbs _ => .ADC
  | .adcAbsx _ => .ADC
  | .adcAbsy _ => .ADC
  | .adcIndx _ => .ADC
  | .adcIndy _ => .ADC
  | .sbcImm _ => .SBC
  | .sbcZp _ => .SBC
  | .sbcZpx _ => .SBC
  | .sbcAbs _ => .SBC
  | .sbcAbsx _ => .SBC
  | .sbcAbsy _ => .SBC
  | .sbcIndx _ => .SBC
  | .sbcIndy _ => .SBC

/-- The addressing mode of an instruction, with its operand. -/
def Instr.mode : Instr → Mode
  | .ldaImm v => .imm v
  | .ldaZp a => .mem (.zp a)
  | .ldaZpx a => .mem (.zpx a)
  | .ldaAbs a => .mem (.abs a)
  | .ldaAbsx a => .mem (.absx a)
  | .ldaAbsy a => .mem (.absy a)
  | .ldaIndx a => .mem (.indx a)
  | .ldaIndy a => .mem (.indy a)
  | .ldxImm v => .imm v
  | .ldxZp a => .mem (.zp a)
  | .ldxZpy a => .mem (.zpy a)
  | .ldxAbs a => .mem (.abs a)
  | .ldxAbsy a => .mem (.absy a)
  | .ldyImm v => .imm v
  | .ldyZp a => .mem (.zp a)
  | .ldyZpx a => .mem (.zpx a)
  | .ldyAbs a => .mem (.abs a)
  | .ldyAbsx a => .mem (.absx a)
  | .staZp a => .mem (.zp a)
  | .staZpx a => .mem (.zpx a)
  | .staAbs a => .mem (.abs a)
  | .staAbsx a => .mem (.absx a)
  | .staAbsy a => .mem (.absy a)
  | .staIndx a => .mem (.indx a)
  | .staIndy a => .mem (.indy a)
  | .stxZp a => .mem (.zp a)
  | .stxZpy a => .mem (.zpy a)
  | .stxAbs a => .mem (.abs a)
  | .styZp a => .mem (.zp a)
  | .styZpx a => .mem (.zpx a)
  | .styAbs a => .mem (.abs a)
  | .tax => .imp
  | .tay => .imp
  | .txa => .imp
  | .tya => .imp
  | .tsx => .imp
  | .txs => .imp
  | .incZp a => .mem (.zp a)
  | .incZpx a => .mem (.zpx a)
  | .incAbs a => .mem (.abs a)
  | .incAbsx a => .mem (.absx a)
  | .decZp a => .mem (.zp a)
  | .decZpx a => .mem (.zpx a)
  | .decAbs a => .mem (.abs a)
  | .decAbsx a => .mem (.absx a)
  | .inx => .imp
  | .iny => .imp
  | .dex => .imp
  | .dey => .imp
  | .aslAcc => .acc
  | .aslZp a => .mem (.zp a)
  | .aslZpx a => .mem (.zpx a)
  | .aslAbs a => .mem (.abs a)
  | .aslAbsx a => .mem (.absx a)
  | .lsrAcc => .acc
  | .lsrZp a => .mem (.zp a)
  | .lsrZpx a => .mem (.zpx a)
  | .lsrAbs a => .mem (.abs a)
  | .lsrAbsx a => .mem (.absx a)
  | .rolAcc => .acc
  | .rolZp a => .mem (.zp a)
  | .rolZpx a => .mem (.zpx a)
  | .rolAbs a => .mem (.abs a)
  | .rolAbsx a => .mem (.absx a)
  | .rorAcc => .acc
  | .rorZp a => .mem (.zp a)
  | .rorZpx a => .mem (.zpx a)
  | .rorAbs a => .mem (.abs a)
  | .rorAbsx a => .mem (.absx a)
  | .andImm v => .imm v
  | .andZp a => .mem (.zp a)
  | .andZpx a => .mem (.zpx a)
  | .andAbs a => .mem (.abs a)
  | .andAbsx a => .mem (.absx a)
  | .andAbsy a => .mem (.absy a)
  | .andIndx a => .mem (.indx a)
  | .andIndy a => .mem (.indy a)
  | .oraImm v => .imm v
  | .oraZp a => .mem (.zp a)
  | .oraZpx a => .mem (.zpx a)
  | .oraAbs a => .mem (.abs a)
  | .oraAbsx a => .mem (.absx a)
  | .oraAbsy a => .mem (.absy a)
  | .oraIndx a => .mem (.indx a)
  | .oraIndy a => .mem (.indy a)
  | .eorImm v => .imm v
  | .eorZp a => .mem (.zp a)
  | .eorZpx a => .mem (.zpx a)
  | .eorAbs a => .mem (.abs a)
  | .eorAbsx a => .mem (.absx a)
  | .eorAbsy a => .mem (.absy a)
  | .eorIndx a => .mem (.indx a)
  | .eorIndy a => .mem (.indy a)
  | .cmpImm v => .imm v
  | .cmpZp a => .mem (.zp a)
  | .cmpZpx a => .mem (.zpx a)
  | .cmpAbs a => .mem (.abs a)
  | .cmpAbsx a => .mem (.absx a)
  | .cmpAbsy a => .mem (.absy a)
  | .cmpIndx a => .mem (.indx a)
  | .cmpIndy a => .mem (.indy a)
  | .cpxImm v => .imm v
  | .cpxZp a => .mem (.zp a)
  | .cpxAbs a => .mem (.abs a)
  | .cpyImm v => .imm v
  | .cpyZp a => .mem (.zp a)
  | .cpyAbs a => .mem (.abs a)
  | .bitZp a => .mem (.zp a)
  | .bitAbs a => .mem (.abs a)
  | .bcc off => .rel off
  | .bcs off => .rel off
  | .beq off => .rel off
  | .bne off => .rel off
  | .bmi off => .rel off
  | .bpl off => .rel off
  | .bvc off => .rel off
  | .bvs off => .rel off
  | .clc => .imp
  | .sec => .imp
  | .cli => .imp
  | .sei => .imp
  | .cld => .imp
  | .sed => .imp
  | .clv => .imp
  | .pha => .imp
  | .pla => .imp
  | .php => .imp
  | .plp => .imp
  | .jmpAbs a => .mem (.abs a)
  | .jmpInd a => .ind a
  | .jsr a => .mem (.abs a)
  | .rts => .imp
  | .rti => .imp
  | .brk => .imp
  | .nop => .imp
  | .adcImm v => .imm v
  | .adcZp a => .mem (.zp a)
  | .adcZpx a => .mem (.zpx a)
  | .adcAbs a => .mem (.abs a)
  | .adcAbsx a => .mem (.absx a)
  | .adcAbsy a => .mem (.absy a)
  | .adcIndx a => .mem (.indx a)
  | .adcIndy a => .mem (.indy a)
  | .sbcImm v => .imm v
  | .sbcZp a => .mem (.zp a)
  | .sbcZpx a => .mem (.zpx a)
  | .sbcAbs a => .mem (.abs a)
  | .sbcAbsx a => .mem (.absx a)
  | .sbcAbsy a => .mem (.absy a)
  | .sbcIndx a => .mem (.indx a)
  | .sbcIndy a => .mem (.indy a)

end Sys2Proof
end

