-- ==== Sys2Proof/WellFormed.lean ====
section
/-! DEFINITION. Which pairs of a mnemonic and an addressing mode are instructions (30_encoding R76). Operand ranges are
the operand types' own, so this is the one check an instruction has. -/

namespace Sys2Proof

/-- The addressing modes of each mnemonic: the filled cells of its row in the opcode map (30_encoding R76). -/
def Mnemonic.kinds : Mnemonic → List ModeKind
  | .LDA | .AND | .ORA | .EOR | .CMP | .ADC | .SBC => [.imm, .zp, .zpx, .abs, .absx, .absy, .indx, .indy]
  | .LDX => [.imm, .zp, .zpy, .abs, .absy]
  | .LDY => [.imm, .zp, .zpx, .abs, .absx]
  | .STA => [.zp, .zpx, .abs, .absx, .absy, .indx, .indy]
  | .STX => [.zp, .zpy, .abs]
  | .STY => [.zp, .zpx, .abs]
  | .TAX | .TAY | .TXA | .TYA | .TSX | .TXS | .INX | .INY | .DEX | .DEY
  | .CLC | .SEC | .CLI | .SEI | .CLD | .SED | .CLV | .PHA | .PLA | .PHP
  | .PLP | .RTS | .RTI | .BRK | .NOP => [.imp]
  | .INC | .DEC => [.zp, .zpx, .abs, .absx]
  | .ASL | .LSR | .ROL | .ROR => [.acc, .zp, .zpx, .abs, .absx]
  | .CPX | .CPY => [.imm, .zp, .abs]
  | .BIT => [.zp, .abs]
  | .BCC | .BCS | .BEQ | .BNE | .BMI | .BPL | .BVC | .BVS => [.rel]
  | .JMP => [.abs, .ind]
  | .JSR => [.abs]

/-- A pair is supported when its cell of the opcode map is filled (30_encoding R76, R88). -/
def supported (mn : Mnemonic) (k : ModeKind) : Bool := mn.kinds.contains k

/-- The same check on a mode with its operand. -/
def wellFormedPair (mn : Mnemonic) (m : Mode) : Bool := supported mn m.kind

def Instr.wellFormed (i : Instr) : Bool := wellFormedPair i.mnemonic i.mode

end Sys2Proof
end

