-- ==== Sys2Proof/Decode.lean ====
section
/-! DEFINITION. The decoder, total on any bytes, and after it the encoder: the opcode map of 30_encoding R76 and R77,
the three formats R72, operand assembly R74, illegal bytes R80. -/

namespace Sys2Proof

/-! ### Byte-order helpers (20_memory R55: the low byte lies lower) -/

/-- `hi:lo`, that is `hi * 256 + lo` (00_scope R11). -/
def wordOf (hi lo : Byte) : Word := hi ++ lo

def loByte (w : Word) : Byte := w.extractLsb' 0 8

def hiByte (w : Word) : Byte := w.extractLsb' 8 8

/-! ### Decoding -/

/-- What an opcode byte selects: the instruction, up to its operand byte or word (30_encoding R72: F1, F2, F3). -/
inductive Form where
  | f1 (i : Instr)
  | f2 (mk : Byte → Instr)
  | f3 (mk : Word → Instr)

def Form.length : Form → Nat
  | .f1 _ => 1
  | .f2 _ => 2
  | .f3 _ => 3

def opcodeRow0 : List (Byte × Form) :=
  [(0x00, .f1 .brk), (0x01, .f2 .oraIndx), (0x05, .f2 .oraZp), (0x06, .f2 .aslZp),
   (0x08, .f1 .php), (0x09, .f2 .oraImm), (0x0A, .f1 .aslAcc), (0x0D, .f3 .oraAbs),
   (0x0E, .f3 .aslAbs)]

def opcodeRow1 : List (Byte × Form) :=
  [(0x10, .f2 .bpl), (0x11, .f2 .oraIndy), (0x15, .f2 .oraZpx), (0x16, .f2 .aslZpx),
   (0x18, .f1 .clc), (0x19, .f3 .oraAbsy), (0x1D, .f3 .oraAbsx), (0x1E, .f3 .aslAbsx)]

def opcodeRow2 : List (Byte × Form) :=
  [(0x20, .f3 .jsr), (0x21, .f2 .andIndx), (0x24, .f2 .bitZp), (0x25, .f2 .andZp),
   (0x26, .f2 .rolZp), (0x28, .f1 .plp), (0x29, .f2 .andImm), (0x2A, .f1 .rolAcc),
   (0x2C, .f3 .bitAbs), (0x2D, .f3 .andAbs), (0x2E, .f3 .rolAbs)]

def opcodeRow3 : List (Byte × Form) :=
  [(0x30, .f2 .bmi), (0x31, .f2 .andIndy), (0x35, .f2 .andZpx), (0x36, .f2 .rolZpx),
   (0x38, .f1 .sec), (0x39, .f3 .andAbsy), (0x3D, .f3 .andAbsx), (0x3E, .f3 .rolAbsx)]

def opcodeRow4 : List (Byte × Form) :=
  [(0x40, .f1 .rti), (0x41, .f2 .eorIndx), (0x45, .f2 .eorZp), (0x46, .f2 .lsrZp),
   (0x48, .f1 .pha), (0x49, .f2 .eorImm), (0x4A, .f1 .lsrAcc), (0x4C, .f3 .jmpAbs),
   (0x4D, .f3 .eorAbs), (0x4E, .f3 .lsrAbs)]

def opcodeRow5 : List (Byte × Form) :=
  [(0x50, .f2 .bvc), (0x51, .f2 .eorIndy), (0x55, .f2 .eorZpx), (0x56, .f2 .lsrZpx),
   (0x58, .f1 .cli), (0x59, .f3 .eorAbsy), (0x5D, .f3 .eorAbsx), (0x5E, .f3 .lsrAbsx)]

def opcodeRow6 : List (Byte × Form) :=
  [(0x60, .f1 .rts), (0x61, .f2 .adcIndx), (0x65, .f2 .adcZp), (0x66, .f2 .rorZp),
   (0x68, .f1 .pla), (0x69, .f2 .adcImm), (0x6A, .f1 .rorAcc), (0x6C, .f3 .jmpInd),
   (0x6D, .f3 .adcAbs), (0x6E, .f3 .rorAbs)]

def opcodeRow7 : List (Byte × Form) :=
  [(0x70, .f2 .bvs), (0x71, .f2 .adcIndy), (0x75, .f2 .adcZpx), (0x76, .f2 .rorZpx),
   (0x78, .f1 .sei), (0x79, .f3 .adcAbsy), (0x7D, .f3 .adcAbsx), (0x7E, .f3 .rorAbsx)]

def opcodeRow8 : List (Byte × Form) :=
  [(0x81, .f2 .staIndx), (0x84, .f2 .styZp), (0x85, .f2 .staZp), (0x86, .f2 .stxZp),
   (0x88, .f1 .dey), (0x8A, .f1 .txa), (0x8C, .f3 .styAbs), (0x8D, .f3 .staAbs),
   (0x8E, .f3 .stxAbs)]

def opcodeRow9 : List (Byte × Form) :=
  [(0x90, .f2 .bcc), (0x91, .f2 .staIndy), (0x94, .f2 .styZpx), (0x95, .f2 .staZpx),
   (0x96, .f2 .stxZpy), (0x98, .f1 .tya), (0x99, .f3 .staAbsy), (0x9A, .f1 .txs),
   (0x9D, .f3 .staAbsx)]

def opcodeRowA : List (Byte × Form) :=
  [(0xA0, .f2 .ldyImm), (0xA1, .f2 .ldaIndx), (0xA2, .f2 .ldxImm), (0xA4, .f2 .ldyZp),
   (0xA5, .f2 .ldaZp), (0xA6, .f2 .ldxZp), (0xA8, .f1 .tay), (0xA9, .f2 .ldaImm),
   (0xAA, .f1 .tax), (0xAC, .f3 .ldyAbs), (0xAD, .f3 .ldaAbs), (0xAE, .f3 .ldxAbs)]

def opcodeRowB : List (Byte × Form) :=
  [(0xB0, .f2 .bcs), (0xB1, .f2 .ldaIndy), (0xB4, .f2 .ldyZpx), (0xB5, .f2 .ldaZpx),
   (0xB6, .f2 .ldxZpy), (0xB8, .f1 .clv), (0xB9, .f3 .ldaAbsy), (0xBA, .f1 .tsx),
   (0xBC, .f3 .ldyAbsx), (0xBD, .f3 .ldaAbsx), (0xBE, .f3 .ldxAbsy)]

def opcodeRowC : List (Byte × Form) :=
  [(0xC0, .f2 .cpyImm), (0xC1, .f2 .cmpIndx), (0xC4, .f2 .cpyZp), (0xC5, .f2 .cmpZp),
   (0xC6, .f2 .decZp), (0xC8, .f1 .iny), (0xC9, .f2 .cmpImm), (0xCA, .f1 .dex),
   (0xCC, .f3 .cpyAbs), (0xCD, .f3 .cmpAbs), (0xCE, .f3 .decAbs)]

def opcodeRowD : List (Byte × Form) :=
  [(0xD0, .f2 .bne), (0xD1, .f2 .cmpIndy), (0xD5, .f2 .cmpZpx), (0xD6, .f2 .decZpx),
   (0xD8, .f1 .cld), (0xD9, .f3 .cmpAbsy), (0xDD, .f3 .cmpAbsx), (0xDE, .f3 .decAbsx)]

def opcodeRowE : List (Byte × Form) :=
  [(0xE0, .f2 .cpxImm), (0xE1, .f2 .sbcIndx), (0xE4, .f2 .cpxZp), (0xE5, .f2 .sbcZp),
   (0xE6, .f2 .incZp), (0xE8, .f1 .inx), (0xE9, .f2 .sbcImm), (0xEA, .f1 .nop),
   (0xEC, .f3 .cpxAbs), (0xED, .f3 .sbcAbs), (0xEE, .f3 .incAbs)]

def opcodeRowF : List (Byte × Form) :=
  [(0xF0, .f2 .beq), (0xF1, .f2 .sbcIndy), (0xF5, .f2 .sbcZpx), (0xF6, .f2 .incZpx),
   (0xF8, .f1 .sed), (0xF9, .f3 .sbcAbsy), (0xFD, .f3 .sbcAbsx), (0xFE, .f3 .incAbsx)]

/-- The opcode map, one row of the grid of 30_encoding R77 after the other; an absent byte is illegal (R80). -/
def opcodeTable : List (Byte × Form) :=
  opcodeRow0 ++ opcodeRow1 ++ opcodeRow2 ++ opcodeRow3 ++ opcodeRow4 ++ opcodeRow5 ++ opcodeRow6 ++ opcodeRow7 ++
  opcodeRow8 ++ opcodeRow9 ++ opcodeRowA ++ opcodeRowB ++ opcodeRowC ++ opcodeRowD ++ opcodeRowE ++ opcodeRowF

/-- Decode reads all eight bits of the opcode byte and nothing else (30_encoding R79). -/
def formOf (opcode : Byte) : Option Form := opcodeTable.lookup opcode

/-- The outcome of decoding a list of bytes. -/
inductive Decoded where
  | instr (i : Instr) (rest : List Byte)
  | illegal (opcode : Byte)
  | truncated
  deriving DecidableEq, Repr

/-- Decodes the first instruction of a list of bytes and gives the rest (30_encoding R71, R72, R74, R80). A list that
ends inside an instruction is `truncated`: the machine itself never meets this, since its fetch wraps (40 R100). -/
def decode : List Byte → Decoded
  | [] => .truncated
  | op :: rest =>
    match formOf op with
    | none => .illegal op
    | some (.f1 i) => .instr i rest
    | some (.f2 mk) =>
      match rest with
      | b :: rest' => .instr (mk b) rest'
      | [] => .truncated
    | some (.f3 mk) =>
      match rest with
      | lo :: hi :: rest' => .instr (mk (wordOf hi lo)) rest'
      | _ => .truncated

/-- The decoder on an instruction given as one number, bit 0 the least significant bit of the first byte; the bits
above `nbits` are 0. -/
def decodeTableWord (nbits w : Nat) : Option Instr :=
  let v := w % 2 ^ nbits
  match decode [BitVec.ofNat 8 v, BitVec.ofNat 8 (v / 256), BitVec.ofNat 8 (v / 65536)] with
  | .instr i _ => some i
  | _ => none

/-! ### Encoding -/

/-- The opcode byte of each instruction (30_encoding R76). -/
def Instr.opcode : Instr → Byte
  | .ldaImm _ => 0xA9
  | .ldaZp _ => 0xA5
  | .ldaZpx _ => 0xB5
  | .ldaAbs _ => 0xAD
  | .ldaAbsx _ => 0xBD
  | .ldaAbsy _ => 0xB9
  | .ldaIndx _ => 0xA1
  | .ldaIndy _ => 0xB1
  | .ldxImm _ => 0xA2
  | .ldxZp _ => 0xA6
  | .ldxZpy _ => 0xB6
  | .ldxAbs _ => 0xAE
  | .ldxAbsy _ => 0xBE
  | .ldyImm _ => 0xA0
  | .ldyZp _ => 0xA4
  | .ldyZpx _ => 0xB4
  | .ldyAbs _ => 0xAC
  | .ldyAbsx _ => 0xBC
  | .staZp _ => 0x85
  | .staZpx _ => 0x95
  | .staAbs _ => 0x8D
  | .staAbsx _ => 0x9D
  | .staAbsy _ => 0x99
  | .staIndx _ => 0x81
  | .staIndy _ => 0x91
  | .stxZp _ => 0x86
  | .stxZpy _ => 0x96
  | .stxAbs _ => 0x8E
  | .styZp _ => 0x84
  | .styZpx _ => 0x94
  | .styAbs _ => 0x8C
  | .tax => 0xAA
  | .tay => 0xA8
  | .txa => 0x8A
  | .tya => 0x98
  | .tsx => 0xBA
  | .txs => 0x9A
  | .incZp _ => 0xE6
  | .incZpx _ => 0xF6
  | .incAbs _ => 0xEE
  | .incAbsx _ => 0xFE
  | .decZp _ => 0xC6
  | .decZpx _ => 0xD6
  | .decAbs _ => 0xCE
  | .decAbsx _ => 0xDE
  | .inx => 0xE8
  | .iny => 0xC8
  | .dex => 0xCA
  | .dey => 0x88
  | .aslAcc => 0x0A
  | .aslZp _ => 0x06
  | .aslZpx _ => 0x16
  | .aslAbs _ => 0x0E
  | .aslAbsx _ => 0x1E
  | .lsrAcc => 0x4A
  | .lsrZp _ => 0x46
  | .lsrZpx _ => 0x56
  | .lsrAbs _ => 0x4E
  | .lsrAbsx _ => 0x5E
  | .rolAcc => 0x2A
  | .rolZp _ => 0x26
  | .rolZpx _ => 0x36
  | .rolAbs _ => 0x2E
  | .rolAbsx _ => 0x3E
  | .rorAcc => 0x6A
  | .rorZp _ => 0x66
  | .rorZpx _ => 0x76
  | .rorAbs _ => 0x6E
  | .rorAbsx _ => 0x7E
  | .andImm _ => 0x29
  | .andZp _ => 0x25
  | .andZpx _ => 0x35
  | .andAbs _ => 0x2D
  | .andAbsx _ => 0x3D
  | .andAbsy _ => 0x39
  | .andIndx _ => 0x21
  | .andIndy _ => 0x31
  | .oraImm _ => 0x09
  | .oraZp _ => 0x05
  | .oraZpx _ => 0x15
  | .oraAbs _ => 0x0D
  | .oraAbsx _ => 0x1D
  | .oraAbsy _ => 0x19
  | .oraIndx _ => 0x01
  | .oraIndy _ => 0x11
  | .eorImm _ => 0x49
  | .eorZp _ => 0x45
  | .eorZpx _ => 0x55
  | .eorAbs _ => 0x4D
  | .eorAbsx _ => 0x5D
  | .eorAbsy _ => 0x59
  | .eorIndx _ => 0x41
  | .eorIndy _ => 0x51
  | .cmpImm _ => 0xC9
  | .cmpZp _ => 0xC5
  | .cmpZpx _ => 0xD5
  | .cmpAbs _ => 0xCD
  | .cmpAbsx _ => 0xDD
  | .cmpAbsy _ => 0xD9
  | .cmpIndx _ => 0xC1
  | .cmpIndy _ => 0xD1
  | .cpxImm _ => 0xE0
  | .cpxZp _ => 0xE4
  | .cpxAbs _ => 0xEC
  | .cpyImm _ => 0xC0
  | .cpyZp _ => 0xC4
  | .cpyAbs _ => 0xCC
  | .bitZp _ => 0x24
  | .bitAbs _ => 0x2C
  | .bcc _ => 0x90
  | .bcs _ => 0xB0
  | .beq _ => 0xF0
  | .bne _ => 0xD0
  | .bmi _ => 0x30
  | .bpl _ => 0x10
  | .bvc _ => 0x50
  | .bvs _ => 0x70
  | .clc => 0x18
  | .sec => 0x38
  | .cli => 0x58
  | .sei => 0x78
  | .cld => 0xD8
  | .sed => 0xF8
  | .clv => 0xB8
  | .pha => 0x48
  | .pla => 0x68
  | .php => 0x08
  | .plp => 0x28
  | .jmpAbs _ => 0x4C
  | .jmpInd _ => 0x6C
  | .jsr _ => 0x20
  | .rts => 0x60
  | .rti => 0x40
  | .brk => 0x00
  | .nop => 0xEA
  | .adcImm _ => 0x69
  | .adcZp _ => 0x65
  | .adcZpx _ => 0x75
  | .adcAbs _ => 0x6D
  | .adcAbsx _ => 0x7D
  | .adcAbsy _ => 0x79
  | .adcIndx _ => 0x61
  | .adcIndy _ => 0x71
  | .sbcImm _ => 0xE9
  | .sbcZp _ => 0xE5
  | .sbcZpx _ => 0xF5
  | .sbcAbs _ => 0xED
  | .sbcAbsx _ => 0xFD
  | .sbcAbsy _ => 0xF9
  | .sbcIndx _ => 0xE1
  | .sbcIndy _ => 0xF1

/-- The operand bytes of a memory mode: one, or low byte then high byte (30_encoding R72). -/
def AddrMode.operandBytes : AddrMode → List Byte
  | .zp a | .zpx a | .zpy a | .indx a | .indy a => [a]
  | .abs a | .absx a | .absy a => [loByte a, hiByte a]

/-- The operand bytes of a mode (30_encoding R72). -/
def Mode.operandBytes : Mode → List Byte
  | .imp | .acc => []
  | .imm v => [v]
  | .mem m => m.operandBytes
  | .ind a => [loByte a, hiByte a]
  | .rel off => [off]

/-- The bytes of an instruction, the opcode byte first (30_encoding R71). -/
def encode (i : Instr) : List Byte := i.opcode :: i.mode.operandBytes

/-! ### From a mnemonic and a mode to the instruction (30_encoding R84: the cell of R76) -/

/-- The operand byte of a mode, 0 where it has none. -/
def Mode.op8 : Mode → Byte
  | .imm v => v
  | .rel off => off
  | .mem (.zp a) | .mem (.zpx a) | .mem (.zpy a) | .mem (.indx a) | .mem (.indy a) => a
  | _ => 0

/-- The operand word of a mode, 0 where it has none. -/
def Mode.op16 : Mode → Word
  | .ind a => a
  | .mem (.abs a) | .mem (.absx a) | .mem (.absy a) => a
  | _ => 0

/-- The instruction a form gives with the operand of a mode; the caller checks that the mode's kind fits. -/
def Form.withOperand (f : Form) (m : Mode) : Instr :=
  match f with
  | .f1 i => i
  | .f2 mk => mk m.op8
  | .f3 mk => mk m.op16

/-- The instruction of a mnemonic and a mode, or none where the cell of the opcode map is empty (30_encoding R84, R88). -/
def instrOf? (mn : Mnemonic) (m : Mode) : Option Instr :=
  (opcodeTable.find? fun row =>
    decide ((row.2.withOperand m).mnemonic = mn ∧ (row.2.withOperand m).mode.kind = m.kind)).map
      fun row => row.2.withOperand m

end Sys2Proof
end

