-- ==== Sys2Proof/Config.lean ====
section
/-! DEFINITION. What is fixed for a run: the parameters of 00_scope R9, and the free values the spec leaves open, each an
opaque constant that no proof can evaluate. -/

namespace Sys2Proof

/-- One call of a hook by the core: which hook, by its place in registration order, with what, and what it answered
(20_memory R51, R52). -/
inductive HookCall where
  | read (hook : Nat) (addr : Word) (answer : Option Byte)
  | write (hook : Nat) (addr : Word) (value : Byte) (handled : Bool)
  deriving DecidableEq, Repr

/-- The addresses a hook may claim, from `lo` to `hi` inclusive (00_scope R9: "which addresses they claim"). -/
structure AddrRange where
  lo : Word
  hi : Word
  deriving DecidableEq, Repr

/-- The two admitted settings of P_ILLEGAL_OPCODE (30_encoding R80). -/
inductive IllegalPolicy where
  | fault
  | nop1
  deriving DecidableEq, Repr

/-- The parameters of a run (00_scope R9). Hooks are given by the addresses they may claim, in registration order; what
they answer is free (`Config.readHook`, `Config.writeHook`). DESIGN CHOICE: carried in State and changed by no step
(log entries 1 and 3); safe. -/
structure Params where
  /-- P_B_PUSH_PHP: bit 4 of the byte PHP pushes. -/
  bPushPhp : Bool
  /-- P_B_PUSH_NMI: bit 4 of the byte the NMI service pushes. -/
  bPushNmi : Bool
  /-- P_ILLEGAL_OPCODE. -/
  illegalOpcode : IllegalPolicy
  /-- P_BRK_PC_ADVANCE. -/
  brkAdvance : Word
  /-- P_DECIMAL_ENABLED. -/
  decimalEnabled : Bool
  /-- P_HOOKS, the read hooks. -/
  readHooks : List AddrRange
  /-- P_HOOKS, the write hooks. -/
  writeHooks : List AddrRange
  deriving DecidableEq, Repr

/-- The decided values of 00_scope R9 (D3, D5, D13, D16); P_HOOKS is OPEN, and empty here. DESIGN CHOICE: no hooks
(log entry 3); unsafe for a platform that has some. -/
def Params.decided : Params where
  bPushPhp := true
  bPushNmi := false
  illegalOpcode := .fault
  brkAdvance := 1
  decimalEnabled := true
  readHooks := []
  writeHooks := []

/-- Free value: what a read hook answers, after the calls made so far, to a read of an address it may claim; `none` falls
through (20_memory R51, R53; 93 U8). Log entry 2; safe. -/
opaque Config.readHook (log : List HookCall) (hook : Nat) (addr : Word) : Option Byte

/-- Free value: whether a write hook handles a write to an address it may claim (20_memory R52, R53; 93 U8).
Log entry 2; safe. -/
opaque Config.writeHook (log : List HookCall) (hook : Nat) (addr : Word) (value : Byte) : Bool

/-- Free value: N after the decimal operation that takes draw number `draw` (42_alu_and_flags R141). `sub` tells SBC from
ADC; the operands are arguments so that no two operations are forced to agree. Log entry 4; safe. -/
opaque Config.decimalN (draw : Nat) (sub : Bool) (a m : Byte) (c : Bool) : Bool

/-- Free value: V after the same operation (42_alu_and_flags R141). Log entry 4; safe. -/
opaque Config.decimalV (draw : Nat) (sub : Bool) (a m : Byte) (c : Bool) : Bool

end Sys2Proof
end

