-- ==== Sys2Proof/Machine/State.lean ====
section
/-! DEFINITION. The state of the core as plain data (10_state), the reasons a step can stop, the state after reset, and
one setter per field. -/

namespace Sys2Proof.Machine

/-- The six stored flags, the fields of the status register P (10_state R27, R37). There is no stored B flag and no
stored bit 5 (R36). -/
structure Flags where
  n : Bool
  v : Bool
  d : Bool
  i : Bool
  z : Bool
  c : Bool
  deriving DecidableEq, Repr

/-- A recorded fault's kind (10_state R40; 60_exceptions R242, R243). -/
inductive FaultKind where
  | illegalOpcode (opcode : Byte) (addr : Word)
  | unresolvedLabel (label : String)
  deriving DecidableEq, Repr

/-- The memory image, 65,536 bytes (10_state R41), as the sorted list of the cells that differ from the byte an unlisted
address holds. Machine/Ops.lean has its operations and its canonical form. -/
abbrev Memory := List Host.Cell

/-- Everything the spec gives the machine (10_state R21), and below the line the model's own fields. -/
structure State where
  /-- A, the accumulator (R22). -/
  a : Byte
  /-- X, index register (R23). -/
  x : Byte
  /-- Y, index register (R24). -/
  y : Byte
  /-- SP, the stack pointer into page 1 (R25). -/
  sp : Byte
  /-- PC, the program counter (R26). -/
  pc : Word
  /-- P, the six flags (R27, R37). -/
  p : Flags
  /-- The halted flag (R38). -/
  halted : Bool
  /-- The pending-NMI latch (R39). -/
  nmiPending : Bool
  /-- The fault record (R40). -/
  fault : Option FaultKind
  /-- The memory image (R41). -/
  mem : Memory
  /-- The run's parameters, which no step changes (00_scope R9; DESIGN CHOICE, log entry 3; unsafe at reset). -/
  params : Params
  /-- The calls made to hooks so far, newest first, from which the free hook answers are drawn (DESIGN CHOICE,
  log entry 2; safe for one run). -/
  hookLog : List HookCall
  /-- How many draws of N and V were taken so far (42 R141; DESIGN CHOICE, log entry 4; safe for one run). -/
  draws : Nat
  /-- Whether a step was taken since create or reset (10_state R45; DEDUCED, log entry 8; unsafe after a decoded
  pair). -/
  started : Bool
  deriving DecidableEq, Repr

/-- Why the core takes no step. Both are raised by `step`, `executeDecoded` and nothing else, in a terminal state
(40_execution_cycle R97, R111; DESIGN CHOICE, log entry 7; safe). -/
inductive Fault where
  /-- The halted flag is set: the state is terminal and stuck (R38, R97; 93 U13). Safe: the spec gives no step here. -/
  | halted
  /-- A fault is recorded: the state is terminal and stuck (R40, R97, R260). Safe: the spec gives no step here. -/
  | recorded (kind : FaultKind)
  deriving DecidableEq, Repr

/-- What the model gives no transition for. -/
inductive Refusal where
  /-- An instruction without a meaning; raised by `exec` alone, and by no arm of this model. Safe. -/
  | notModelled (mnemonic : String)
  /-- A resolved value outside the range its field needs; raised by `executeDecoded` (30_encoding R84, D28). Safe: the
  spec refuses it. -/
  | valueOutOfRange
  /-- A host load after the first step; raised by `hostAct` (10_state R45, D21). Safe: the spec forbids it. -/
  | loadAfterStart
  deriving DecidableEq, Repr

abbrev Result := Host.Outcome State Fault Refusal

/-- All six flags clear (10_state R42). -/
def Flags.reset : Flags where
  n := false
  v := false
  d := false
  i := false
  z := false
  c := false

/-- The state right after reset: the zero baseline (10_state R42), with the decided parameters (DESIGN CHOICE, log entry 3;
unsafe) and memory with nothing listed (DESIGN CHOICE, log entry 5; unsafe). The reset vector is not read (70 R267). -/
def State.reset : State where
  a := 0
  x := 0
  y := 0
  sp := 0
  pc := 0
  p := Flags.reset
  halted := false
  nmiPending := false
  fault := none
  mem := []
  params := Params.decided
  hookLog := []
  draws := 0
  started := false

/-! ### One setter per field -/

def State.setA (s : State) (v : Byte) : State := { s with a := v }
def State.setX (s : State) (v : Byte) : State := { s with x := v }
def State.setY (s : State) (v : Byte) : State := { s with y := v }
def State.setSP (s : State) (v : Byte) : State := { s with sp := v }
def State.setPC (s : State) (w : Word) : State := { s with pc := w }
def State.setP (s : State) (f : Flags) : State := { s with p := f }
def State.setHalted (s : State) (b : Bool) : State := { s with halted := b }
def State.setNmiPending (s : State) (b : Bool) : State := { s with nmiPending := b }
def State.setFault (s : State) (k : Option FaultKind) : State := { s with fault := k }
def State.setMem (s : State) (m : Memory) : State := { s with mem := m }
def State.setParams (s : State) (q : Params) : State := { s with params := q }
def State.setHookLog (s : State) (l : List HookCall) : State := { s with hookLog := l }
def State.setDraws (s : State) (k : Nat) : State := { s with draws := k }
def State.setStarted (s : State) (b : Bool) : State := { s with started := b }

end Sys2Proof.Machine
end

