-- ==== Sys2Proof/Machine/Flags.lean ====
section
/-! DEFINITION. The ALU functions, the flag updates and the status byte (42_alu_and_flags; 10_state R34, R35). Each
function is pure. -/

namespace Sys2Proof.Machine

/-! ### Bits and bytes -/

/-- Bit 7, the sign bit (00_scope R12). -/
def signBit (v : Byte) : Bool := v.getLsbD 7

/-- The low nibble `v[3:0]` as a number. -/
def loNibble (v : Byte) : Nat := v.toNat % 16

/-- The high nibble `v[7:4]` as a number. -/
def hiNibble (v : Byte) : Nat := v.toNat / 16

/-! ### The status byte -/

/-- `pack(b4)`: N V 1 b4 D I Z C (10_state R34). -/
def pack (f : Flags) (b4 : Bool) : Byte :=
  BitVec.ofBool f.n ++ BitVec.ofBool f.v ++ BitVec.ofBool true ++ BitVec.ofBool b4 ++
    BitVec.ofBool f.d ++ BitVec.ofBool f.i ++ BitVec.ofBool f.z ++ BitVec.ofBool f.c

/-- `unpack(v)`: the six flags from bits 7, 6, 3, 2, 1, 0; bits 5 and 4 are ignored (10_state R35). -/
def unpack (v : Byte) : Flags where
  n := v.getLsbD 7
  v := v.getLsbD 6
  d := v.getLsbD 3
  i := v.getLsbD 2
  z := v.getLsbD 1
  c := v.getLsbD 0

/-! ### Flag updates -/

/-- `setNZ` (R136). -/
def Flags.setNZ (f : Flags) (v : Byte) : Flags := { f with n := signBit v, z := v == 0 }

/-- N and Z from a result, C as given (R142 to R145). -/
def Flags.setNZC (f : Flags) (v : Byte) (c : Bool) : Flags := { f with n := signBit v, z := v == 0, c := c }

/-- `compare(r, m)`: C = r >= m unsigned, Z = equal, N = bit 7 of the difference (R147). -/
def Flags.compare (f : Flags) (r m : Byte) : Flags :=
  { f with n := signBit (r - m), z := r == m, c := decide (m.toNat ≤ r.toNat) }

/-- `bit_test(a, m)`: Z from `a & m`, N and V from bits 7 and 6 of `m` (R148). -/
def Flags.bitTest (f : Flags) (a m : Byte) : Flags :=
  { f with n := m.getLsbD 7, v := m.getLsbD 6, z := a &&& m == 0 }

/-! ### Arithmetic -/

/-- What an addition or subtraction gives (R137: `(r, N', V', Z', C')`). -/
structure AluResult where
  r : Byte
  n : Bool
  v : Bool
  z : Bool
  c : Bool
  deriving DecidableEq, Repr

/-- `adc_bin` (R137): the exact sum, then narrowed. -/
def adcBin (a m : Byte) (c : Bool) : AluResult :=
  let s := a.toNat + m.toNat + c.toNat
  let r := BitVec.ofNat 8 s
  { r := r
    n := signBit r
    v := signBit a == signBit m && signBit r != signBit a
    z := r == 0
    c := decide (s > 255) }

/-- `sbc_bin` is `adc_bin` of the complement (R138). -/
def sbcBin (a m : Byte) (c : Bool) : AluResult := adcBin a (~~~m) c

/-- `adc_dec` (R139), with the draws of N and V as arguments (R141). -/
def adcDec (a m : Byte) (c drawnN drawnV : Bool) : AluResult :=
  let lo := loNibble a + loNibble m + c.toNat
  let nc := if lo > 9 then 1 else 0
  let lo' := if lo > 9 then lo + 6 else lo
  let hi := hiNibble a + hiNibble m + nc
  let hi' := if hi > 9 then hi + 6 else hi
  let r := BitVec.ofNat 8 (hi' % 16 * 16 + lo' % 16)
  { r := r, n := drawnN, v := drawnV, z := r == 0, c := decide (hi > 9) }

/-- `sbc_dec` (R140), over the integers, with the draws of N and V as arguments (R141). -/
def sbcDec (a m : Byte) (c drawnN drawnV : Bool) : AluResult :=
  let b : Int := 1 - (c.toNat : Int)
  let lo : Int := (loNibble a : Int) - loNibble m - b
  let nb : Int := if lo < 0 then 1 else 0
  let lo' := if lo < 0 then lo - 6 else lo
  let hi : Int := (hiNibble a : Int) - hiNibble m - nb
  let hi' := if hi < 0 then hi - 6 else hi
  let r := BitVec.ofInt 8 (hi' % 16 * 16 + lo' % 16)
  { r := r, n := drawnN, v := drawnV, z := r == 0, c := decide (0 ≤ hi) }

/-- The flags after an addition or subtraction; D and I stay (R231, R232). -/
def Flags.setAlu (f : Flags) (q : AluResult) : Flags := { f with n := q.n, v := q.v, z := q.z, c := q.c }

/-! ### Shifts: the result and the carry out -/

/-- `asl` (R142). -/
def aslResult (v : Byte) : Byte × Bool := (v <<< 1, v.getLsbD 7)

/-- `lsr` (R143). -/
def lsrResult (v : Byte) : Byte × Bool := (v >>> 1, v.getLsbD 0)

/-- `rol` (R144). -/
def rolResult (v : Byte) (c : Bool) : Byte × Bool := (v <<< 1 ||| (BitVec.ofBool c).setWidth 8, v.getLsbD 7)

/-- `ror` (R145). -/
def rorResult (v : Byte) (c : Bool) : Byte × Bool := (v >>> 1 ||| (BitVec.ofBool c).setWidth 8 <<< 7, v.getLsbD 0)

/-! ### Increment and decrement -/

/-- `inc8` (R149). -/
def inc8 (v : Byte) : Byte := v + 1

/-- `dec8` (R149). -/
def dec8 (v : Byte) : Byte := v - 1

/-! ### Branch predicates -/

/-- `cond(mnemonic)`, a pure function of the flags (R150); none for a mnemonic that is no branch. -/
def cond (f : Flags) : Mnemonic → Option Bool
  | .BCC => some (!f.c)
  | .BCS => some f.c
  | .BEQ => some f.z
  | .BNE => some (!f.z)
  | .BMI => some f.n
  | .BPL => some (!f.n)
  | .BVC => some (!f.v)
  | .BVS => some f.v
  | _ => none

end Sys2Proof.Machine
end

