-- ==== Sys2Proof/Machine/Ops.lean ====
section
/-! DEFINITION. The named operations over memory, bus, stack and control state (20_memory; 60_exceptions R247): memory
cells, hooked bus accesses, 16-bit reads, push and pull, advancing PC, halting, recording a fault, the NMI service and
the return from it. -/

namespace Sys2Proof.Machine

/-! ### Memory cells -/

/-- What an address that no cell lists holds. DESIGN CHOICE (log entry 5); the list stands for every image of 65,536
bytes whatever this byte is, and only `State.reset` makes the choice unsafe. -/
def unlistedByte : Byte := 0

/-- The byte of a cell list at an address. -/
def Memory.get : Memory → Nat → Byte
  | [], _ => unlistedByte
  | (k, v) :: rest, a => if k = a then v else Memory.get rest a

/-- Puts a byte at an address and keeps the canonical form: addresses rising, no cell that holds the unlisted byte. -/
def Memory.put : Memory → Nat → Byte → Memory
  | [], a, v => if v = unlistedByte then [] else [(a, v)]
  | (k, w) :: rest, a, v =>
    if a < k then (if v = unlistedByte then (k, w) :: rest else (a, v) :: (k, w) :: rest)
    else if a = k then (if v = unlistedByte then rest else (a, v) :: rest)
    else (k, w) :: Memory.put rest a v

/-- The canonical form of a cell list whose addresses start at `from` or above. -/
def Memory.wfFrom : Memory → Nat → Bool
  | [], _ => true
  | (k, v) :: rest, least =>
    decide (least ≤ k) && decide (k < 65536) && decide (v ≠ unlistedByte) && Memory.wfFrom rest (k + 1)

/-- The canonical form: addresses strictly rising and below 65,536, no cell equal to the unlisted byte. -/
def Memory.wf (m : Memory) : Bool := Memory.wfFrom m 0

/-- The byte of `mem` at an address, with no bus access (20_memory R51: `mem[addr]`). -/
def State.byteAt (s : State) (a : Word) : Byte := Memory.get s.mem a.toNat

/-! ### Hooks -/

/-- Whether a hook may claim an address. -/
def AddrRange.holds (r : AddrRange) (a : Word) : Bool := decide (r.lo.toNat ≤ a.toNat) && decide (a.toNat ≤ r.hi.toNat)

/-- Tries the read hooks from number `k` on in registration order; the first that answers wins (20_memory R51). Each
call is added to the log. -/
def tryReadHooks (a : Word) : Nat → List AddrRange → List HookCall → Option Byte × List HookCall
  | _, [], log => (none, log)
  | k, r :: rest, log =>
    if AddrRange.holds r a then
      match Config.readHook log k a with
      | some v => (some v, .read k a (some v) :: log)
      | none => tryReadHooks a (k + 1) rest (.read k a none :: log)
    else tryReadHooks a (k + 1) rest log

/-- Tries the write hooks from number `k` on in registration order; the first that handles the write ends it
(20_memory R52). -/
def tryWriteHooks (a : Word) (v : Byte) : Nat → List AddrRange → List HookCall → Bool × List HookCall
  | _, [], log => (false, log)
  | k, r :: rest, log =>
    if AddrRange.holds r a then
      match Config.writeHook log k a v with
      | true => (true, .write k a v true :: log)
      | false => tryWriteHooks a v (k + 1) rest (.write k a v false :: log)
    else tryWriteHooks a v (k + 1) rest log

/-! ### The bus -/

/-- `MemRead(addr)`: the byte, and the state with the hook calls logged (20_memory R51). -/
def busRead (a : Word) (s : State) : Byte × State :=
  let q := tryReadHooks a 0 s.params.readHooks s.hookLog
  (q.1.getD (State.byteAt s a), s.setHookLog q.2)

/-- `MemWrite(addr, v)`: a handled write leaves `mem` as it is (20_memory R52). -/
def busWrite (a : Word) (v : Byte) (s : State) : State :=
  let q := tryWriteHooks a v 0 s.params.writeHooks s.hookLog
  (s.setHookLog q.2).setMem (if q.1 then s.mem else Memory.put s.mem a.toNat v)

/-- Two bus reads, the low byte first, from the two addresses given. -/
def readPair (loAddr hiAddr : Word) (s : State) : Word × State :=
  let lo := busRead loAddr s
  let hi := busRead hiAddr lo.2
  (wordOf hi.1 lo.1, hi.2)

/-- `Read16(a)` (20_memory R56). -/
def read16 (a : Word) (s : State) : Word × State := readPair a (a + 1) s

/-- `Read16ZP(p)`: the high byte comes from `(p + 1) mod 256` (20_memory R56). -/
def read16ZP (p : Byte) (s : State) : Word × State := readPair (wordOf 0 p) (wordOf 0 (p + 1)) s

/-- `Read16Bug(a)`: the high byte comes from the same page (20_memory R56, 41 R127). -/
def read16Bug (a : Word) (s : State) : Word × State := readPair a (wordOf (hiByte a) (loByte a + 1)) s

/-! ### The stack -/

/-- The address of the stack slot that SP names: `0x0100 + SP` (20_memory R48, R59). -/
def stackSlot (sp : Byte) : Word := 0x0100 + wordOf 0 sp

/-- `Push(v)`: write at SP, then decrement (20_memory R59). -/
def push (v : Byte) (s : State) : State := (busWrite (stackSlot s.sp) v s).setSP (s.sp - 1)

/-- `Pull()`: increment, then read (20_memory R60). -/
def pull (s : State) : Byte × State := busRead (stackSlot (s.sp + 1)) (s.setSP (s.sp + 1))

/-- Pushes a word, the high byte first (47 R221, 60 R247). -/
def pushWord (w : Word) (s : State) : State := push (loByte w) (push (hiByte w) s)

/-- Pulls a word, the low byte first (47 R222, R223). -/
def pullWord (s : State) : Word × State :=
  let lo := pull s
  let hi := pull lo.2
  (wordOf hi.1 lo.1, hi.2)

/-! ### Control state -/

/-- PC becomes `PC_next`, `n` bytes on (40_execution_cycle R100, R101). -/
def advance (n : Nat) (s : State) : State := s.setPC (s.pc + BitVec.ofNat 16 n)

/-- `halt` (10_state R38). -/
def halt (s : State) : State := s.setHalted true

/-- `raise Fault(kind)`: the fault is recorded, and the state becomes terminal (10_state R40, 60 R260). -/
def raiseFault (k : FaultKind) (s : State) : State := s.setFault (some k)

/-- Why the core takes no step here, if it does not (40_execution_cycle R97). -/
def terminal (s : State) : Option Fault :=
  match s.fault with
  | some k => some (.recorded k)
  | none => if s.halted then some .halted else none

/-! ### The NMI and the return from it -/

/-- The NMI vector's two addresses (00_scope R8). -/
def nmiVectorLo : Word := 0xFFFA
def nmiVectorHi : Word := 0xFFFB

/-- Takes the NMI: pushes PC and the status byte, sets I, loads PC from the vector and clears the latch, in this order
(60_exceptions R247). -/
def takeNmi (s : State) : State :=
  let s1 := push (pack s.p s.params.bPushNmi) (pushWord s.pc s)
  let s2 := s1.setP { s1.p with i := true }
  let v := readPair nmiVectorLo nmiVectorHi s2
  (v.2.setPC v.1).setNmiPending false

/-- `handleInterrupts()`: nothing in a terminal state or with the latch clear (60_exceptions R247). -/
def handleInterrupts (s : State) : State :=
  match terminal s with
  | some _ => s
  | none => if s.nmiPending then takeNmi s else s

/-- `triggerNmi()` arms the latch, in every state (60_exceptions R246). -/
def triggerNmi (s : State) : State := s.setNmiPending true

/-- Returns from the service: pulls the flags, then PC, and adds nothing (47_stack_control R223, 60 R253). -/
def returnFromInterrupt (s : State) : State :=
  let q := pull s
  let w := pullWord (q.2.setP (unpack q.1))
  w.2.setPC w.1

end Sys2Proof.Machine
end

