-- ==== Sys2Proof/Machine/Operands.lean ====
section
/-! DEFINITION. The addressing-mode resolver (41_addressing_modes), and the operand forms the instructions use: reading
an operand, storing, read-modify-write, branching (40_execution_cycle R102 to R105). -/

namespace Sys2Proof.Machine

/-- The effective address of a memory mode, and the state after its pointer reads (41 R119 to R126). -/
def effAddr : AddrMode → State → Word × State
  | .zp a, s => (wordOf 0 a, s)
  | .zpx a, s => (wordOf 0 (a + s.x), s)
  | .zpy a, s => (wordOf 0 (a + s.y), s)
  | .abs a, s => (a, s)
  | .absx a, s => (a + wordOf 0 s.x, s)
  | .absy a, s => (a + wordOf 0 s.y, s)
  | .indx a, s => read16ZP (a + s.x) s
  | .indy a, s =>
    let q := read16ZP a s
    (q.1 + wordOf 0 s.y, q.2)

/-- The length of an instruction with a memory mode (30_encoding R78). -/
def addrModeLength : AddrMode → Nat
  | .zp _ | .zpx _ | .zpy _ | .indx _ | .indy _ => 2
  | .abs _ | .absx _ | .absy _ => 3

/-- The length of an instruction that reads an operand (30_encoding R78). -/
def operandLength : Operand → Nat
  | .imm _ => 2
  | .mem m => addrModeLength m

/-- `operand_read()`: the immediate byte with no bus access, or one read of the effective address (40 R103). -/
def readOperand : Operand → State → Byte × State
  | .imm v, s => (v, s)
  | .mem m, s =>
    let e := effAddr m s
    busRead e.1 e.2

/-- An instruction that reads an operand: `f` with the byte read, then PC moves on (40 R101 to R103). -/
def withOperand (o : Operand) (f : Byte → State → State) (s : State) : Result :=
  let r := readOperand o s
  .next (advance (operandLength o) (f r.1 r.2))

/-- An implied instruction: `f`, then PC moves on by one (40 R101, 41 R116). -/
def implied (f : State → State) (s : State) : Result := .next (advance 1 (f s))

/-- A store: one write of the effective address and no read of it, then PC moves on (40 R105). -/
def storeByte (m : AddrMode) (v : Byte) (s : State) : Result :=
  let e := effAddr m s
  .next (advance (addrModeLength m) (busWrite e.1 v e.2))

/-- Read-modify-write: one read of the effective address, `f` on the byte and the flags, one write (40 R104). -/
def modifyByte (m : AddrMode) (f : Byte → Flags → Byte × Flags) (s : State) : Result :=
  let e := effAddr m s
  let b := busRead e.1 e.2
  let q := f b.1 s.p
  .next (advance (addrModeLength m) ((busWrite e.1 q.1 b.2).setP q.2))

/-- The same on A, with no bus access (40 R104, 41 R117). -/
def modifyA (f : Byte → Flags → Byte × Flags) (s : State) : Result :=
  let q := f s.a s.p
  .next (advance 1 ((s.setA q.1).setP q.2))

/-- The target of a branch: `PC_next + sext8(op8)` (41 R128). -/
def branchTarget (pc : Word) (off : Byte) : Word := pc + 2 + off.signExtend 16

/-- The common branch rule (46_branch_flag R196). -/
def branchIf (taken : Bool) (off : Byte) (s : State) : Result :=
  .next (s.setPC (if taken then branchTarget s.pc off else s.pc + 2))

end Sys2Proof.Machine
end

