-- ==== Sys2Proof/Machine/Arithmetic.lean ====
section
/-! DEFINITION. ADC and SBC (48_arithmetic R231, R232). -/

namespace Sys2Proof.Machine

/-- ADC of a byte: decimal when D is set and P_DECIMAL_ENABLED, with a fresh draw for N and V, else binary (R231, 42
R141, R151). -/
def adcOperand (m : Byte) (s : State) : State :=
  if s.p.d && s.params.decimalEnabled then
    let q := adcDec s.a m s.p.c (Config.decimalN s.draws false s.a m s.p.c) (Config.decimalV s.draws false s.a m s.p.c)
    ((s.setA q.r).setP (s.p.setAlu q)).setDraws (s.draws + 1)
  else
    let q := adcBin s.a m s.p.c
    (s.setA q.r).setP (s.p.setAlu q)

/-! ADC, R231 -/

def execAdcImm (v : Byte) (s : State) : Result := withOperand (.imm v) adcOperand s
def execAdcZp (a : Byte) (s : State) : Result := withOperand (.mem (.zp a)) adcOperand s
def execAdcZpx (a : Byte) (s : State) : Result := withOperand (.mem (.zpx a)) adcOperand s
def execAdcAbs (a : Word) (s : State) : Result := withOperand (.mem (.abs a)) adcOperand s
def execAdcAbsx (a : Word) (s : State) : Result := withOperand (.mem (.absx a)) adcOperand s
def execAdcAbsy (a : Word) (s : State) : Result := withOperand (.mem (.absy a)) adcOperand s
def execAdcIndx (a : Byte) (s : State) : Result := withOperand (.mem (.indx a)) adcOperand s
def execAdcIndy (a : Byte) (s : State) : Result := withOperand (.mem (.indy a)) adcOperand s

/-- SBC of a byte: decimal when D is set and P_DECIMAL_ENABLED, with a fresh draw for N and V, else binary (R232, 42
R141, R151). -/
def sbcOperand (m : Byte) (s : State) : State :=
  if s.p.d && s.params.decimalEnabled then
    let q := sbcDec s.a m s.p.c (Config.decimalN s.draws true s.a m s.p.c) (Config.decimalV s.draws true s.a m s.p.c)
    ((s.setA q.r).setP (s.p.setAlu q)).setDraws (s.draws + 1)
  else
    let q := sbcBin s.a m s.p.c
    (s.setA q.r).setP (s.p.setAlu q)

/-! SBC, R232 -/

def execSbcImm (v : Byte) (s : State) : Result := withOperand (.imm v) sbcOperand s
def execSbcZp (a : Byte) (s : State) : Result := withOperand (.mem (.zp a)) sbcOperand s
def execSbcZpx (a : Byte) (s : State) : Result := withOperand (.mem (.zpx a)) sbcOperand s
def execSbcAbs (a : Word) (s : State) : Result := withOperand (.mem (.abs a)) sbcOperand s
def execSbcAbsx (a : Word) (s : State) : Result := withOperand (.mem (.absx a)) sbcOperand s
def execSbcAbsy (a : Word) (s : State) : Result := withOperand (.mem (.absy a)) sbcOperand s
def execSbcIndx (a : Byte) (s : State) : Result := withOperand (.mem (.indx a)) sbcOperand s
def execSbcIndy (a : Byte) (s : State) : Result := withOperand (.mem (.indy a)) sbcOperand s

end Sys2Proof.Machine
end

