-- ==== Sys2Proof/Machine/BranchFlag.lean ====
section
/-! DEFINITION. Branches and flag instructions (46_branch_flag R196 to R211). -/

namespace Sys2Proof.Machine

/-- BCC (R197). -/
def execBcc (off : Byte) (s : State) : Result := branchIf (!s.p.c) off s

/-- BCS (R198). -/
def execBcs (off : Byte) (s : State) : Result := branchIf (s.p.c) off s

/-- BEQ (R199). -/
def execBeq (off : Byte) (s : State) : Result := branchIf (s.p.z) off s

/-- BNE (R200). -/
def execBne (off : Byte) (s : State) : Result := branchIf (!s.p.z) off s

/-- BMI (R201). -/
def execBmi (off : Byte) (s : State) : Result := branchIf (s.p.n) off s

/-- BPL (R202). -/
def execBpl (off : Byte) (s : State) : Result := branchIf (!s.p.n) off s

/-- BVC (R203). -/
def execBvc (off : Byte) (s : State) : Result := branchIf (!s.p.v) off s

/-- BVS (R204). -/
def execBvs (off : Byte) (s : State) : Result := branchIf (s.p.v) off s

/-- CLC: `C <- 0` (R205). -/
def execClc (s : State) : Result := implied (fun s => s.setP { s.p with c := false }) s

/-- SEC: `C <- 1` (R206). -/
def execSec (s : State) : Result := implied (fun s => s.setP { s.p with c := true }) s

/-- CLI: `I <- 0` (R207). -/
def execCli (s : State) : Result := implied (fun s => s.setP { s.p with i := false }) s

/-- SEI: `I <- 1` (R208). -/
def execSei (s : State) : Result := implied (fun s => s.setP { s.p with i := true }) s

/-- CLD: `D <- 0` (R209). -/
def execCld (s : State) : Result := implied (fun s => s.setP { s.p with d := false }) s

/-- SED: `D <- 1` (R210). -/
def execSed (s : State) : Result := implied (fun s => s.setP { s.p with d := true }) s

/-- CLV: `V <- 0` (R211). -/
def execClv (s : State) : Result := implied (fun s => s.setP { s.p with v := false }) s

end Sys2Proof.Machine
end

