-- ==== Sys2Proof/Machine/IncDecShift.lean ====
section
/-! DEFINITION. Increments, decrements, shifts and rotates (44_incdec_shift R171 to R180). -/

namespace Sys2Proof.Machine

/-- `r <- inc8(M); setNZ(r)` (R171). -/
def incByte (v : Byte) (f : Flags) : Byte × Flags := (inc8 v, f.setNZ (inc8 v))

/-! INC, R171 -/

def execIncZp (a : Byte) (s : State) : Result := modifyByte (.zp a) incByte s
def execIncZpx (a : Byte) (s : State) : Result := modifyByte (.zpx a) incByte s
def execIncAbs (a : Word) (s : State) : Result := modifyByte (.abs a) incByte s
def execIncAbsx (a : Word) (s : State) : Result := modifyByte (.absx a) incByte s

/-- `r <- dec8(M); setNZ(r)` (R172). -/
def decByte (v : Byte) (f : Flags) : Byte × Flags := (dec8 v, f.setNZ (dec8 v))

/-! DEC, R172 -/

def execDecZp (a : Byte) (s : State) : Result := modifyByte (.zp a) decByte s
def execDecZpx (a : Byte) (s : State) : Result := modifyByte (.zpx a) decByte s
def execDecAbs (a : Word) (s : State) : Result := modifyByte (.abs a) decByte s
def execDecAbsx (a : Word) (s : State) : Result := modifyByte (.absx a) decByte s

/-- INX: `X <- inc8(X); setNZ(X)` (R173). -/
def execInx (s : State) : Result := implied (fun s => (s.setX (inc8 s.x)).setP (s.p.setNZ (inc8 s.x))) s

/-- INY: `Y <- inc8(Y); setNZ(Y)` (R174). -/
def execIny (s : State) : Result := implied (fun s => (s.setY (inc8 s.y)).setP (s.p.setNZ (inc8 s.y))) s

/-- DEX: `X <- dec8(X); setNZ(X)` (R175). -/
def execDex (s : State) : Result := implied (fun s => (s.setX (dec8 s.x)).setP (s.p.setNZ (dec8 s.x))) s

/-- DEY: `Y <- dec8(Y); setNZ(Y)` (R176). -/
def execDey (s : State) : Result := implied (fun s => (s.setY (dec8 s.y)).setP (s.p.setNZ (dec8 s.y))) s

/-- `asl` of a byte, then N, Z and C (R177). -/
def aslByte (v : Byte) (f : Flags) : Byte × Flags :=
  let q := aslResult v
  (q.1, f.setNZC q.1 q.2)

/-! ASL, R177 -/

def execAslAcc (s : State) : Result := modifyA aslByte s
def execAslZp (a : Byte) (s : State) : Result := modifyByte (.zp a) aslByte s
def execAslZpx (a : Byte) (s : State) : Result := modifyByte (.zpx a) aslByte s
def execAslAbs (a : Word) (s : State) : Result := modifyByte (.abs a) aslByte s
def execAslAbsx (a : Word) (s : State) : Result := modifyByte (.absx a) aslByte s

/-- `lsr` of a byte, then N, Z and C (R178). -/
def lsrByte (v : Byte) (f : Flags) : Byte × Flags :=
  let q := lsrResult v
  (q.1, f.setNZC q.1 q.2)

/-! LSR, R178 -/

def execLsrAcc (s : State) : Result := modifyA lsrByte s
def execLsrZp (a : Byte) (s : State) : Result := modifyByte (.zp a) lsrByte s
def execLsrZpx (a : Byte) (s : State) : Result := modifyByte (.zpx a) lsrByte s
def execLsrAbs (a : Word) (s : State) : Result := modifyByte (.abs a) lsrByte s
def execLsrAbsx (a : Word) (s : State) : Result := modifyByte (.absx a) lsrByte s

/-- `rol` of a byte, then N, Z and C (R179). -/
def rolByte (v : Byte) (f : Flags) : Byte × Flags :=
  let q := rolResult v f.c
  (q.1, f.setNZC q.1 q.2)

/-! ROL, R179 -/

def execRolAcc (s : State) : Result := modifyA rolByte s
def execRolZp (a : Byte) (s : State) : Result := modifyByte (.zp a) rolByte s
def execRolZpx (a : Byte) (s : State) : Result := modifyByte (.zpx a) rolByte s
def execRolAbs (a : Word) (s : State) : Result := modifyByte (.abs a) rolByte s
def execRolAbsx (a : Word) (s : State) : Result := modifyByte (.absx a) rolByte s

/-- `ror` of a byte, then N, Z and C (R180). -/
def rorByte (v : Byte) (f : Flags) : Byte × Flags :=
  let q := rorResult v f.c
  (q.1, f.setNZC q.1 q.2)

/-! ROR, R180 -/

def execRorAcc (s : State) : Result := modifyA rorByte s
def execRorZp (a : Byte) (s : State) : Result := modifyByte (.zp a) rorByte s
def execRorZpx (a : Byte) (s : State) : Result := modifyByte (.zpx a) rorByte s
def execRorAbs (a : Word) (s : State) : Result := modifyByte (.abs a) rorByte s
def execRorAbsx (a : Word) (s : State) : Result := modifyByte (.absx a) rorByte s

end Sys2Proof.Machine
end

