-- ==== Sys2Proof/Machine/LoadStore.lean ====
section
/-! DEFINITION. Loads, stores and transfers (43_load_store_transfer R156 to R167). -/

namespace Sys2Proof.Machine

/-- `A <- M; setNZ(A)` (R156). -/
def loadA (m : Byte) (s : State) : State := (s.setA m).setP (s.p.setNZ m)

/-! LDA, R156 -/

def execLdaImm (v : Byte) (s : State) : Result := withOperand (.imm v) loadA s
def execLdaZp (a : Byte) (s : State) : Result := withOperand (.mem (.zp a)) loadA s
def execLdaZpx (a : Byte) (s : State) : Result := withOperand (.mem (.zpx a)) loadA s
def execLdaAbs (a : Word) (s : State) : Result := withOperand (.mem (.abs a)) loadA s
def execLdaAbsx (a : Word) (s : State) : Result := withOperand (.mem (.absx a)) loadA s
def execLdaAbsy (a : Word) (s : State) : Result := withOperand (.mem (.absy a)) loadA s
def execLdaIndx (a : Byte) (s : State) : Result := withOperand (.mem (.indx a)) loadA s
def execLdaIndy (a : Byte) (s : State) : Result := withOperand (.mem (.indy a)) loadA s

/-- `X <- M; setNZ(X)` (R157). -/
def loadX (m : Byte) (s : State) : State := (s.setX m).setP (s.p.setNZ m)

/-! LDX, R157 -/

def execLdxImm (v : Byte) (s : State) : Result := withOperand (.imm v) loadX s
def execLdxZp (a : Byte) (s : State) : Result := withOperand (.mem (.zp a)) loadX s
def execLdxZpy (a : Byte) (s : State) : Result := withOperand (.mem (.zpy a)) loadX s
def execLdxAbs (a : Word) (s : State) : Result := withOperand (.mem (.abs a)) loadX s
def execLdxAbsy (a : Word) (s : State) : Result := withOperand (.mem (.absy a)) loadX s

/-- `Y <- M; setNZ(Y)` (R158). -/
def loadY (m : Byte) (s : State) : State := (s.setY m).setP (s.p.setNZ m)

/-! LDY, R158 -/

def execLdyImm (v : Byte) (s : State) : Result := withOperand (.imm v) loadY s
def execLdyZp (a : Byte) (s : State) : Result := withOperand (.mem (.zp a)) loadY s
def execLdyZpx (a : Byte) (s : State) : Result := withOperand (.mem (.zpx a)) loadY s
def execLdyAbs (a : Word) (s : State) : Result := withOperand (.mem (.abs a)) loadY s
def execLdyAbsx (a : Word) (s : State) : Result := withOperand (.mem (.absx a)) loadY s

/-! STA, R159: `MemWrite(EA, A)`, no flag -/

def execStaZp (a : Byte) (s : State) : Result := storeByte (.zp a) s.a s
def execStaZpx (a : Byte) (s : State) : Result := storeByte (.zpx a) s.a s
def execStaAbs (a : Word) (s : State) : Result := storeByte (.abs a) s.a s
def execStaAbsx (a : Word) (s : State) : Result := storeByte (.absx a) s.a s
def execStaAbsy (a : Word) (s : State) : Result := storeByte (.absy a) s.a s
def execStaIndx (a : Byte) (s : State) : Result := storeByte (.indx a) s.a s
def execStaIndy (a : Byte) (s : State) : Result := storeByte (.indy a) s.a s

/-! STX, R160: `MemWrite(EA, X)`, no flag -/

def execStxZp (a : Byte) (s : State) : Result := storeByte (.zp a) s.x s
def execStxZpy (a : Byte) (s : State) : Result := storeByte (.zpy a) s.x s
def execStxAbs (a : Word) (s : State) : Result := storeByte (.abs a) s.x s

/-! STY, R161: `MemWrite(EA, Y)`, no flag -/

def execStyZp (a : Byte) (s : State) : Result := storeByte (.zp a) s.y s
def execStyZpx (a : Byte) (s : State) : Result := storeByte (.zpx a) s.y s
def execStyAbs (a : Word) (s : State) : Result := storeByte (.abs a) s.y s

/-- TAX: `X <- A; setNZ(X)` (R162). -/
def execTax (s : State) : Result := implied (fun s => (s.setX s.a).setP (s.p.setNZ s.a)) s

/-- TAY: `Y <- A; setNZ(Y)` (R163). -/
def execTay (s : State) : Result := implied (fun s => (s.setY s.a).setP (s.p.setNZ s.a)) s

/-- TXA: `A <- X; setNZ(A)` (R164). -/
def execTxa (s : State) : Result := implied (fun s => (s.setA s.x).setP (s.p.setNZ s.x)) s

/-- TYA: `A <- Y; setNZ(A)` (R165). -/
def execTya (s : State) : Result := implied (fun s => (s.setA s.y).setP (s.p.setNZ s.y)) s

/-- TSX: `X <- SP; setNZ(X)` (R166). -/
def execTsx (s : State) : Result := implied (fun s => (s.setX s.sp).setP (s.p.setNZ s.sp)) s

/-- TXS: `SP <- X`, no flag (R167). -/
def execTxs (s : State) : Result := implied (fun s => s.setSP s.x) s

end Sys2Proof.Machine
end

