-- ==== Sys2Proof/Machine/Logic.lean ====
section
/-! DEFINITION. Logical, compare and bit-test instructions (45_logic_compare_bit R186 to R192). -/

namespace Sys2Proof.Machine

/-- `A <- A &&& M; setNZ(A)` (R186, 42 R146). -/
def andA (m : Byte) (s : State) : State := (s.setA (s.a &&& m)).setP (s.p.setNZ (s.a &&& m))

/-! AND, R186 -/

def execAndImm (v : Byte) (s : State) : Result := withOperand (.imm v) andA s
def execAndZp (a : Byte) (s : State) : Result := withOperand (.mem (.zp a)) andA s
def execAndZpx (a : Byte) (s : State) : Result := withOperand (.mem (.zpx a)) andA s
def execAndAbs (a : Word) (s : State) : Result := withOperand (.mem (.abs a)) andA s
def execAndAbsx (a : Word) (s : State) : Result := withOperand (.mem (.absx a)) andA s
def execAndAbsy (a : Word) (s : State) : Result := withOperand (.mem (.absy a)) andA s
def execAndIndx (a : Byte) (s : State) : Result := withOperand (.mem (.indx a)) andA s
def execAndIndy (a : Byte) (s : State) : Result := withOperand (.mem (.indy a)) andA s

/-- `A <- A ||| M; setNZ(A)` (R187, 42 R146). -/
def oraA (m : Byte) (s : State) : State := (s.setA (s.a ||| m)).setP (s.p.setNZ (s.a ||| m))

/-! ORA, R187 -/

def execOraImm (v : Byte) (s : State) : Result := withOperand (.imm v) oraA s
def execOraZp (a : Byte) (s : State) : Result := withOperand (.mem (.zp a)) oraA s
def execOraZpx (a : Byte) (s : State) : Result := withOperand (.mem (.zpx a)) oraA s
def execOraAbs (a : Word) (s : State) : Result := withOperand (.mem (.abs a)) oraA s
def execOraAbsx (a : Word) (s : State) : Result := withOperand (.mem (.absx a)) oraA s
def execOraAbsy (a : Word) (s : State) : Result := withOperand (.mem (.absy a)) oraA s
def execOraIndx (a : Byte) (s : State) : Result := withOperand (.mem (.indx a)) oraA s
def execOraIndy (a : Byte) (s : State) : Result := withOperand (.mem (.indy a)) oraA s

/-- `A <- A ^^^ M; setNZ(A)` (R188, 42 R146). -/
def eorA (m : Byte) (s : State) : State := (s.setA (s.a ^^^ m)).setP (s.p.setNZ (s.a ^^^ m))

/-! EOR, R188 -/

def execEorImm (v : Byte) (s : State) : Result := withOperand (.imm v) eorA s
def execEorZp (a : Byte) (s : State) : Result := withOperand (.mem (.zp a)) eorA s
def execEorZpx (a : Byte) (s : State) : Result := withOperand (.mem (.zpx a)) eorA s
def execEorAbs (a : Word) (s : State) : Result := withOperand (.mem (.abs a)) eorA s
def execEorAbsx (a : Word) (s : State) : Result := withOperand (.mem (.absx a)) eorA s
def execEorAbsy (a : Word) (s : State) : Result := withOperand (.mem (.absy a)) eorA s
def execEorIndx (a : Byte) (s : State) : Result := withOperand (.mem (.indx a)) eorA s
def execEorIndy (a : Byte) (s : State) : Result := withOperand (.mem (.indy a)) eorA s

/-- `(N, Z, C) <- compare(A, M)` (R189). -/
def cmpOperand (m : Byte) (s : State) : State := s.setP (s.p.compare s.a m)

/-! CMP, R189 -/

def execCmpImm (v : Byte) (s : State) : Result := withOperand (.imm v) cmpOperand s
def execCmpZp (a : Byte) (s : State) : Result := withOperand (.mem (.zp a)) cmpOperand s
def execCmpZpx (a : Byte) (s : State) : Result := withOperand (.mem (.zpx a)) cmpOperand s
def execCmpAbs (a : Word) (s : State) : Result := withOperand (.mem (.abs a)) cmpOperand s
def execCmpAbsx (a : Word) (s : State) : Result := withOperand (.mem (.absx a)) cmpOperand s
def execCmpAbsy (a : Word) (s : State) : Result := withOperand (.mem (.absy a)) cmpOperand s
def execCmpIndx (a : Byte) (s : State) : Result := withOperand (.mem (.indx a)) cmpOperand s
def execCmpIndy (a : Byte) (s : State) : Result := withOperand (.mem (.indy a)) cmpOperand s

/-- `(N, Z, C) <- compare(X, M)` (R190). -/
def cpxOperand (m : Byte) (s : State) : State := s.setP (s.p.compare s.x m)

/-! CPX, R190 -/

def execCpxImm (v : Byte) (s : State) : Result := withOperand (.imm v) cpxOperand s
def execCpxZp (a : Byte) (s : State) : Result := withOperand (.mem (.zp a)) cpxOperand s
def execCpxAbs (a : Word) (s : State) : Result := withOperand (.mem (.abs a)) cpxOperand s

/-- `(N, Z, C) <- compare(Y, M)` (R191). -/
def cpyOperand (m : Byte) (s : State) : State := s.setP (s.p.compare s.y m)

/-! CPY, R191 -/

def execCpyImm (v : Byte) (s : State) : Result := withOperand (.imm v) cpyOperand s
def execCpyZp (a : Byte) (s : State) : Result := withOperand (.mem (.zp a)) cpyOperand s
def execCpyAbs (a : Word) (s : State) : Result := withOperand (.mem (.abs a)) cpyOperand s

/-- `bit_test(A, M)` (R192, 42 R148). -/
def bitOperand (m : Byte) (s : State) : State := s.setP (s.p.bitTest s.a m)

/-! BIT, R192 -/

def execBitZp (a : Byte) (s : State) : Result := withOperand (.mem (.zp a)) bitOperand s
def execBitAbs (a : Word) (s : State) : Result := withOperand (.mem (.abs a)) bitOperand s

end Sys2Proof.Machine
end

