-- ==== Sys2Proof/Machine/StackControl.lean ====
section
/-! DEFINITION. Stack and control-flow instructions (47_stack_control R216 to R225). -/

namespace Sys2Proof.Machine

/-- PHA: `Push(A)` (R216). -/
def execPha (s : State) : Result := implied (fun s => push s.a s) s

/-- PLA: `A <- Pull(); setNZ(A)` (R217). -/
def execPla (s : State) : Result :=
  implied (fun s => let q := pull s; (q.2.setA q.1).setP (s.p.setNZ q.1)) s

/-- PHP: `Push(pack(P_B_PUSH_PHP))` (R218). -/
def execPhp (s : State) : Result := implied (fun s => push (pack s.p s.params.bPushPhp) s) s

/-- PLP: `unpack(Pull())` (R219). -/
def execPlp (s : State) : Result := implied (fun s => let q := pull s; q.2.setP (unpack q.1)) s

/-- JMP absolute: `PC <- op16` (R220). -/
def execJmpAbs (a : Word) (s : State) : Result := .next (s.setPC a)

/-- JMP indirect: `PC <- Read16Bug(op16)` (R220). -/
def execJmpInd (a : Word) (s : State) : Result :=
  let q := read16Bug a s
  .next (q.2.setPC q.1)

/-- JSR: pushes `PC + 2`, high byte first, then jumps (R221). -/
def execJsr (a : Word) (s : State) : Result := .next ((pushWord (s.pc + 2) s).setPC a)

/-- RTS: pulls the low byte, then the high byte, and adds 1 (R222). -/
def execRts (s : State) : Result :=
  let q := pullWord s
  .next (q.2.setPC (q.1 + 1))

/-- RTI (R223). -/
def execRti (s : State) : Result := .next (returnFromInterrupt s)

/-- BRK: halts, and PC moves on by P_BRK_PC_ADVANCE; nothing else (R224). -/
def execBrk (s : State) : Result := .next ((halt s).setPC (s.pc + s.params.brkAdvance))

/-- NOP: only PC moves on (R225). -/
def execNop (s : State) : Result := implied (fun s => s) s

end Sys2Proof.Machine
end

