-- ==== Sys2Proof/Machine/Fetch.lean ====
section
/-! DEFINITION. Fetch and decode of the instruction at PC, through the bus, and what an illegal opcode byte does
(40_execution_cycle R98 to R100, 60_exceptions R242). -/

namespace Sys2Proof.Machine

/-- What the fetch at PC gives, with the state after its bus reads. -/
inductive Fetched where
  | instr (i : Instr) (s : State)
  | illegal (opcode : Byte) (s : State)
  deriving DecidableEq, Repr

/-- Reads the opcode byte, decodes it, and reads the operand bytes it calls for, the low byte first, at addresses that
wrap (R98 to R100, 30 R74). No operand byte of an illegal opcode is read (60 R242). -/
def fetchDecode (s : State) : Fetched :=
  let op := busRead s.pc (s.setStarted true)
  match formOf op.1 with
  | none => .illegal op.1 op.2
  | some (.f1 i) => .instr i op.2
  | some (.f2 mk) =>
    let b := busRead (s.pc + 1) op.2
    .instr (mk b.1) b.2
  | some (.f3 mk) =>
    let w := readPair (s.pc + 1) (s.pc + 2) op.2
    .instr (mk w.1) w.2

/-- An illegal opcode byte: the fault is recorded and nothing else changes, or, under `nop1`, PC moves on by one
(R99, 60 R242, 30 R80). The recorded fault makes the next state terminal
(DESIGN CHOICE, log entry 6; safe). -/
def illegalOpcode (opcode : Byte) (s : State) : Result :=
  match s.params.illegalOpcode with
  | .fault => .next (raiseFault (.illegalOpcode opcode s.pc) s)
  | .nop1 => .next (advance 1 s)

/-- Places three bytes at PC, which is the longest instruction, and lifts what would keep the next step from fetching
them: a terminal state, and read hooks. -/
def placeAtPc (b0 b1 b2 : Byte) (s : State) : State :=
  let m := Memory.put (Memory.put (Memory.put s.mem s.pc.toNat b0) (s.pc + 1).toNat b1) (s.pc + 2).toNat b2
  (((s.setMem m).setHalted false).setFault none).setParams { s.params with readHooks := [] }

end Sys2Proof.Machine
end

