-- ==== Sys2Proof/Machine/Step.lean ====
section
/-! DEFINITION. The step of the core (40_execution_cycle R97 to R108). -/

namespace Sys2Proof.Machine

/-- One step: none in a terminal state (R97); else fetch, decode, and execute (R98 to R102). A step leaves a pending NMI
alone (60_exceptions R250). -/
def step (s : State) : Host.Outcome State Fault Refusal :=
  match terminal s with
  | some f => .fault f
  | none =>
    match fetchDecode s with
    | .instr i s' => exec i s'
    | .illegal op s' => illegalOpcode op s'

/-- `s` with the instruction whose bits are `w` (the bits above `nbits` zero) stored at PC, where the next step fetches
(DESIGN CHOICE, log entry 17; safe). -/
def State.withFetchWord (s : State) (nbits w : Nat) : State :=
  let v := w % 2 ^ nbits
  placeAtPc (BitVec.ofNat 8 v) (BitVec.ofNat 8 (v / 256)) (BitVec.ofNat 8 (v / 65536)) s

end Sys2Proof.Machine
end

