-- ==== Sys2Proof/Machine/Decoded.lean ====
section
/-! DEFINITION. The decoded-instruction interface: symbolic addressing modes, their resolution, the size function, and the
execution of a decoded pair (30_encoding R82 to R89, 40_execution_cycle R110). -/

namespace Sys2Proof.Machine

/-! ### The parameters of a run of the interface (R82) -/

/-- The label resolver and the constant table, each a list of pairs. Neither is state of the core (10_state R43). -/
structure Symbols where
  labels : List (String × Int)
  consts : List (String × Int)
  deriving DecidableEq, Repr

/-- A 16-bit literal as it stands in an instruction: a number, or a label still to resolve (R83; DEDUCED,
log entry 14; safe). -/
inductive Literal where
  | num (n : Int)
  | label (text : String)
  deriving DecidableEq, Repr

/-- A symbolic addressing mode (R83). `unrecognized` stands for a kind outside the closed variant, which the size table
names (R85). -/
inductive SymMode where
  | none
  | immediateByte (v : Int)
  | immediate16Low (lit : Literal)
  | immediate16High (lit : Literal)
  | direct (label : String) (off : Option Int)
  | directIndexedX (label : String) (off : Option Int)
  | directIndexedY (label : String) (off : Option Int)
  | indirectIndexedX (label : String)
  | indirectIndexedY (label : String)
  | indirectAbsolute (label : String)
  | constantReference (name : String)
  | constantReferenceLower (name : String)
  | constantReferenceUpper (name : String)
  | unrecognized
  deriving DecidableEq, Repr

/-- What a symbolic mode resolves to, for a mnemonic: the hardware mode the mapping chooses, the value of its operand (of
a branch, its target), and whether the resolved value is in the range its field needs; no mode; or a label without a
value. -/
inductive Resolved where
  | chosen (kind : ModeKind) (operand : Int) (inRange : Bool)
  | noMode
  | unresolved (label : String)
  deriving DecidableEq, Repr

/-- What a decoded pair is, once resolved: an instruction of the opcode map, a branch to an address, an unsupported pair,
or one of the two ways resolution ends. -/
inductive DecodedPair where
  | instr (i : Instr)
  | branch (mn : Mnemonic) (target : Word)
  | unsupported
  | outOfRange
  | unresolved (label : String)
  deriving DecidableEq, Repr

/-! ### Mnemonic classes -/

/-- The eight branches (00_scope R2). -/
def isBranch : Mnemonic → Bool
  | .BCC | .BCS | .BEQ | .BNE | .BMI | .BPL | .BVC | .BVS => true
  | _ => false

/-- The four mnemonics with an accumulator form (R84). -/
def isShift : Mnemonic → Bool
  | .ASL | .LSR | .ROL | .ROR => true
  | _ => false

/-- JMP and JSR, which take a jump target (R84). -/
def isJump : Mnemonic → Bool
  | .JMP | .JSR => true
  | _ => false

/-- LDX and STX, the two with a zero-page,Y form (R84). -/
def hasZpy : Mnemonic → Bool
  | .LDX | .STX => true
  | _ => false

/-- The instructions that write PC in the decoded interface (40 R110). -/
def writesPc : Mnemonic → Bool
  | .JMP | .JSR | .RTS | .RTI => true
  | _ => false

/-! ### Resolution (R84) -/

/-- A value that fits a byte field (D28). -/
def fitsByte (v : Int) : Bool := decide (0 ≤ v ∧ v ≤ 0xFF)

/-- A value that fits an address or a 16-bit literal (D28). -/
def fitsWord (v : Int) : Bool := decide (0 ≤ v ∧ v ≤ 0xFFFF)

/-- The label resolver, strict in execution (R82, R87). -/
def withLabel (y : Symbols) (label : String) (k : Int → Resolved) : Resolved :=
  match y.labels.lookup label with
  | some v => k v
  | none => .unresolved label

/-- A literal's value. -/
def withLiteral (y : Symbols) (l : Literal) (k : Int → Resolved) : Resolved :=
  match l with
  | .num n => k n
  | .label text => withLabel y text k

/-- A constant's value; a name that the table lacks is unresolved (DEDUCED, log entry 12; unsafe). -/
def withConst (y : Symbols) (name : String) (k : Int → Resolved) : Resolved :=
  match y.consts.lookup name with
  | some v => k v
  | none => .unresolved name

/-- The zero-page kind for an address below 256, if the mnemonic has that form, else the absolute kind (R84; on values
below zero DEDUCED, log entry 13; unsafe). -/
def zpOr (hasZp : Bool) (zpKind absKind : ModeKind) (a : Int) : Resolved :=
  .chosen (if a < 256 ∧ hasZp = true then zpKind else absKind) a (fitsWord a)

/-- The mapping of R84 from a mnemonic and a symbolic mode to a mode and the value of its operand. -/
def resolveMode (y : Symbols) (mn : Mnemonic) : SymMode → Resolved
  | .none => .chosen (if isShift mn then .acc else .imp) 0 true
  | .immediateByte v => .chosen .imm v (fitsByte v)
  | .immediate16Low l => withLiteral y l fun v => .chosen .imm (v % 256) (fitsWord v)
  | .immediate16High l => withLiteral y l fun v => .chosen .imm (v / 256 % 256) (fitsWord v)
  | .constantReference n => withConst y n fun v => .chosen .imm v (fitsByte v)
  | .constantReferenceLower n => withConst y n fun v => .chosen .imm (v % 256) true
  | .constantReferenceUpper n => withConst y n fun v => .chosen .imm (v / 256 % 256) true
  | .direct l off => withLabel y l fun v =>
      let a := v + off.getD 0
      if isBranch mn then .chosen .rel a (fitsWord a)
      else if isJump mn then .chosen .abs a (fitsWord a)
      else zpOr (supported mn .zp) .zp .abs a
  | .directIndexedX l off => withLabel y l fun v => zpOr (supported mn .zpx) .zpx .absx (v + off.getD 0)
  | .directIndexedY l off => withLabel y l fun v => zpOr (hasZpy mn) .zpy .absy (v + off.getD 0)
  | .indirectIndexedX l => withLabel y l fun v => .chosen .indx v (fitsByte v)
  | .indirectIndexedY l => withLabel y l fun v => .chosen .indy v (fitsByte v)
  | .indirectAbsolute l => withLabel y l fun v => .chosen .ind v (fitsWord v)
  | .unrecognized => .noMode

/-- The mode of a kind with an operand; the operand of `rel` is not its offset here but its target, which
`resolvePair` and `resolveOperand` take from the value itself. -/
def modeOf (k : ModeKind) (v : Int) : Mode :=
  match k with
  | .imp => .imp
  | .acc => .acc
  | .imm => .imm (BitVec.ofInt 8 v)
  | .zp => .mem (.zp (BitVec.ofInt 8 v))
  | .zpx => .mem (.zpx (BitVec.ofInt 8 v))
  | .zpy => .mem (.zpy (BitVec.ofInt 8 v))
  | .abs => .mem (.abs (BitVec.ofInt 16 v))
  | .absx => .mem (.absx (BitVec.ofInt 16 v))
  | .absy => .mem (.absy (BitVec.ofInt 16 v))
  | .indx => .mem (.indx (BitVec.ofInt 8 v))
  | .indy => .mem (.indy (BitVec.ofInt 8 v))
  | .ind => .ind (BitVec.ofInt 16 v)
  | .rel => .rel (BitVec.ofInt 8 v)

/-- The decoded pair as an instruction of the opcode map. An empty cell is an unsupported pair, whatever the value
(R84, R88); only then is the value's range looked at (D28). A label without a value comes before both (40 R110; DEDUCED,
log entry 11; unsafe). -/
def resolvePair (y : Symbols) (mn : Mnemonic) (sm : SymMode) : DecodedPair :=
  match resolveMode y mn sm with
  | .chosen k v inRange =>
    match instrOf? mn (modeOf k v) with
    | none => .unsupported
    | some i =>
      if inRange then (if isBranch mn then .branch mn (BitVec.ofInt 16 v) else .instr i) else .outOfRange
  | .noMode => .unsupported
  | .unresolved l => .unresolved l

/-! ### The resolver's result (R89) -/

/-- The resolver's result: an immediate byte, or an address with its zero-page test; `nothing` for a mode without an
operand and where resolution gives none. -/
inductive ResolverResult where
  | nothing
  | immediate (v : Byte)
  | address (a : Word) (isZeroPage : Bool)
  deriving DecidableEq, Repr

/-- An address result with its test `address < 256` (R89, 41 R130). -/
def addressResult (a : Word) : ResolverResult := .address a (decide (a.toNat < 256))

/-- `resolve(mode, cpu, labelResolver)`, for a mnemonic, with the state after its pointer reads, which writes nothing but
the log of hook calls (R89; DEDUCED, log entry 19; safe). -/
def resolveOperand (y : Symbols) (mn : Mnemonic) (sm : SymMode) (s : State) : ResolverResult × State :=
  match resolveMode y mn sm with
  | .chosen k v true =>
    match modeOf k v with
    | .imm b => (.immediate b, s)
    | .mem m => let e := effAddr m s; (addressResult e.1, e.2)
    | .ind a => let e := read16Bug a s; (addressResult e.1, e.2)
    | .rel _ => (addressResult (BitVec.ofInt 16 v), s)
    | .imp | .acc => (.nothing, s)
  | _ => (.nothing, s)

/-! ### The size function (R85 to R87) -/

/-- The length of a symbolic instruction, a pure function of the mnemonic, the kind of mode and zero-page eligibility
(R85). -/
def symSize (mn : Mnemonic) (sm : SymMode) (zpEligible : Bool) : Nat :=
  match sm with
  | .none => 1
  | .immediateByte _ | .immediate16Low _ | .immediate16High _ => 2
  | .constantReference _ | .constantReferenceLower _ | .constantReferenceUpper _ => 2
  | .direct _ _ => if isJump mn then 3 else if isBranch mn then 2 else if zpEligible then 2 else 3
  | .directIndexedX _ _ => if zpEligible then 2 else 3
  | .directIndexedY _ _ => if hasZpy mn && zpEligible then 2 else 3
  | .indirectIndexedX _ | .indirectIndexedY _ => 2
  | .indirectAbsolute _ => 3
  | .unrecognized => 1

/-- Whether a resolved value is zero-page-eligible, the test `addr < 256` (R87; on values below zero DEDUCED, log entry
13; unsafe). -/
def zpEligible (v : Int) : Bool := decide (v < 256)

/-- Eligibility of a symbolic mode when its label is looked up in a table: an unresolved label is not eligible (R87). -/
def symEligible (table : List (String × Int)) : SymMode → Bool
  | .direct l off | .directIndexedX l off | .directIndexedY l off =>
    match table.lookup l with
    | some v => zpEligible (v + off.getD 0)
    | none => false
  | _ => false

/-- Size calculation: labels are looked up in the constant table, and never fail (R82, R87). -/
def sizeCalc (y : Symbols) (mn : Mnemonic) (sm : SymMode) : Nat := symSize mn sm (symEligible y.consts sm)

/-! ### Execution of a decoded pair (40 R110) -/

/-- Keeps PC unless the instruction writes it (R110: steps 3 and 4). -/
def keepPc (mn : Mnemonic) (pc : Word) (s : State) : State := if writesPc mn then s else s.setPC pc

/-- Executes a decoded pair: no fetch, and PC stays unless JMP, JSR, RTS or RTI writes it. An unresolved label is recorded
as a fault before any effect (60 R243), an unsupported pair changes nothing (R88), an out-of-range value is refused (R84).
A branch leaves PC and every other piece of the spec's state (R110, 46 R196, D26). That the value of its predicate goes
nowhere, neither into State nor to the host, is the model's: DESIGN CHOICE, log entry 20; safe. -/
def executeDecoded (y : Symbols) (mn : Mnemonic) (sm : SymMode) (s : State) : Result :=
  match terminal s with
  | some f => .fault f
  | none =>
    let s0 := s.setStarted true
    match resolvePair y mn sm with
    | .unresolved l => .next (raiseFault (.unresolvedLabel l) s0)
    | .outOfRange => .refused .valueOutOfRange
    | .unsupported => .next s0
    | .branch _ _ => .next s0
    | .instr i =>
      match exec i s0 with
      | .next t => .next (keepPc mn s.pc t)
      | .fault f => .fault f
      | .refused r => .refused r

end Sys2Proof.Machine
end

