-- ==== Sys2Proof/Machine/HostActions.lean ====
section
/-! DEFINITION. The host's actions, each taken between steps (40_execution_cycle R112), and the observable state
(10_state R44). -/

namespace Sys2Proof.Machine

/-- One thing a load writes: a register, a flag or a byte of memory (10_state R45). -/
inductive LoadItem where
  | a (v : Byte)
  | x (v : Byte)
  | y (v : Byte)
  | sp (v : Byte)
  | pc (w : Word)
  | flags (f : Flags)
  | byte (addr : Word) (v : Byte)
  deriving DecidableEq, Repr

/-- The host's actions (R112). -/
inductive HostAction where
  | create (image : List (Word × Byte)) (params : Params)
  | reset
  | load (item : LoadItem)
  | step
  | executeDecoded (symbols : Symbols) (mn : Mnemonic) (mode : SymMode)
  | triggerNmi
  | handleInterrupts
  | snapshot
  deriving DecidableEq, Repr

/-- A memory image from its bytes; a later byte for the same address wins, and an address not named holds
`unlistedByte` (70 R266: P_INITIAL_MEMORY; DESIGN CHOICE, log entry 5; safe). -/
def imageOf (image : List (Word × Byte)) : Memory :=
  image.foldl (fun m q => Memory.put m q.1.toNat q.2) []

/-- `create(P_INITIAL_MEMORY)`, with the run's other parameters (70 R266). -/
def State.create (image : List (Word × Byte)) (params : Params) : State :=
  (State.reset.setMem (imageOf image)).setParams params

/-- `reset()` on an existing core: the registers, flags, halted, latch and fault take their reset values; memory, the
parameters and the hooks' history stay (70 R266, R268). Loading is open again (DEDUCED, log entry 8; safe), and
keeping the last three is DEDUCED too (log entry 18; safe). -/
def resetCore (s : State) : State :=
  { State.reset with mem := s.mem, params := s.params, hookLog := s.hookLog, draws := s.draws }

/-- Writes what a load names (10_state R45). -/
def loadItem (q : LoadItem) (s : State) : State :=
  match q with
  | .a v => s.setA v
  | .x v => s.setX v
  | .y v => s.setY v
  | .sp v => s.setSP v
  | .pc w => s.setPC w
  | .flags f => s.setP f
  | .byte addr v => s.setMem (Memory.put s.mem addr.toNat v)

/-- The effect of a host action (R112). -/
def hostAct (act : HostAction) (s : State) : Result :=
  match act with
  | .create image params => .next (State.create image params)
  | .reset => .next (resetCore s)
  | .load q => if s.started then .refused .loadAfterStart else .next (loadItem q s)
  | .step => Sys2Proof.Machine.step s
  | .executeDecoded y mn sm => Sys2Proof.Machine.executeDecoded y mn sm s
  | .triggerNmi => .next (Sys2Proof.Machine.triggerNmi s)
  | .handleInterrupts => .next (Sys2Proof.Machine.handleInterrupts s)
  | .snapshot => .next s

/-- The observable end state of a run (10_state R44). -/
structure Observation where
  a : Byte
  x : Byte
  y : Byte
  sp : Byte
  pc : Word
  p : Flags
  mem : Memory
  halted : Bool
  fault : Option FaultKind
  deriving DecidableEq, Repr

/-- A snapshot of the observable state (10_state R44, 40 R112). -/
def observe (s : State) : Observation :=
  { a := s.a, x := s.x, y := s.y, sp := s.sp, pc := s.pc, p := s.p, mem := s.mem, halted := s.halted, fault := s.fault }

end Sys2Proof.Machine
end

