-- ==== Sys2Proof/Safety.lean ====
section
/-! DEFINITION. What counts as a safe state and a safe step, in the terms claims use (40_execution_cycle R108, R111). -/

namespace Sys2Proof

open Sys2Proof.Machine

/-- A state the core can step from: not halted, no fault recorded (40 R97). -/
abbrev Machine.State.Running (s : State) : Prop := s.halted = false ∧ s.fault = none

/-- The invariant of every state the model reaches: memory is in its canonical form. -/
abbrev Machine.State.Inv (s : State) : Prop := Memory.wf s.mem = true

/-- A safe step: it answers a next state, and that state records no fault (40 R108: Next or Halted, not Fault). -/
def SafeStep (s : State) : Prop := ∃ t, step s = .next t ∧ t.fault = none

/-- A run that is safe for `k` steps or until it halts. A stop of the host on its budget is no end of a run (40 R111). -/
def SafeFor : Nat → State → Prop
  | 0, s => s.fault = none
  | k + 1, s => s.fault = none ∧ (s.halted = true ∨ ∃ t, step s = .next t ∧ SafeFor k t)

/-- The states the host can bring the core to by its actions (40 R112). -/
inductive Reachable : State → Prop
  | reset : Reachable State.reset
  | act {s t : State} (act : HostAction) : Reachable s → hostAct act s = .next t → Reachable t

end Sys2Proof
end

