-- ==== Sys2Proof/Certificates/Slice0/Obligations.lean ====
section
/-! DEFINITION. The statements for the provers, family by family, and the few words they are written in. -/

namespace Sys2Proof.Claims

open Sys2Proof.Machine

/-! ### Words of the statements, written from the spec and not from the model's definitions -/

/-- L of 30_encoding R78. -/
def lengthOfKind : ModeKind → Nat
  | .imp | .acc => 1
  | .imm | .zp | .zpx | .zpy | .indx | .indy | .rel => 2
  | .abs | .absx | .absy | .ind => 3

/-- `PC_next`: PC plus the length, mod 65536 (40_execution_cycle R100). -/
def pcNext (i : Instr) (s : State) : Word := BitVec.ofNat 16 (s.pc.toNat + lengthOfKind i.mode.kind)

/-- A mnemonic has exactly these modes, with these opcode bytes. -/
def hasForms (mn : Mnemonic) (cells : List (ModeKind × Byte)) : Prop :=
  ∀ i : Instr, i.mnemonic = mn ↔ (i.mode.kind, i.opcode) ∈ cells

/-- The opcode map of 30_encoding R76, row by row. -/
def opcodeMap : List (Mnemonic × ModeKind × Byte) :=
  List.flatten (α := Mnemonic × ModeKind × Byte) [
  [(.ADC, .imm, 0x69), (.ADC, .zp, 0x65), (.ADC, .zpx, 0x75), (.ADC, .abs, 0x6D), (.ADC, .absx, 0x7D), (.ADC, .absy, 0x79),
   (.ADC, .indx, 0x61), (.ADC, .indy, 0x71)],
  [(.AND, .imm, 0x29), (.AND, .zp, 0x25), (.AND, .zpx, 0x35), (.AND, .abs, 0x2D), (.AND, .absx, 0x3D), (.AND, .absy, 0x39),
   (.AND, .indx, 0x21), (.AND, .indy, 0x31)],
  [(.ASL, .acc, 0x0A), (.ASL, .zp, 0x06), (.ASL, .zpx, 0x16), (.ASL, .abs, 0x0E), (.ASL, .absx, 0x1E)],
  [(.BCC, .rel, 0x90)],
  [(.BCS, .rel, 0xB0)],
  [(.BEQ, .rel, 0xF0)],
  [(.BIT, .zp, 0x24), (.BIT, .abs, 0x2C)],
  [(.BMI, .rel, 0x30)],
  [(.BNE, .rel, 0xD0)],
  [(.BPL, .rel, 0x10)],
  [(.BRK, .imp, 0x00)],
  [(.BVC, .rel, 0x50)],
  [(.BVS, .rel, 0x70)],
  [(.CLC, .imp, 0x18)],
  [(.CLD, .imp, 0xD8)],
  [(.CLI, .imp, 0x58)],
  [(.CLV, .imp, 0xB8)],
  [(.CMP, .imm, 0xC9), (.CMP, .zp, 0xC5), (.CMP, .zpx, 0xD5), (.CMP, .abs, 0xCD), (.CMP, .absx, 0xDD), (.CMP, .absy, 0xD9),
   (.CMP, .indx, 0xC1), (.CMP, .indy, 0xD1)],
  [(.CPX, .imm, 0xE0), (.CPX, .zp, 0xE4), (.CPX, .abs, 0xEC)],
  [(.CPY, .imm, 0xC0), (.CPY, .zp, 0xC4), (.CPY, .abs, 0xCC)],
  [(.DEC, .zp, 0xC6), (.DEC, .zpx, 0xD6), (.DEC, .abs, 0xCE), (.DEC, .absx, 0xDE)],
  [(.DEX, .imp, 0xCA)],
  [(.DEY, .imp, 0x88)],
  [(.EOR, .imm, 0x49), (.EOR, .zp, 0x45), (.EOR, .zpx, 0x55), (.EOR, .abs, 0x4D), (.EOR, .absx, 0x5D), (.EOR, .absy, 0x59),
   (.EOR, .indx, 0x41), (.EOR, .indy, 0x51)],
  [(.INC, .zp, 0xE6), (.INC, .zpx, 0xF6), (.INC, .abs, 0xEE), (.INC, .absx, 0xFE)],
  [(.INX, .imp, 0xE8)],
  [(.INY, .imp, 0xC8)],
  [(.JMP, .abs, 0x4C), (.JMP, .ind, 0x6C)],
  [(.JSR, .abs, 0x20)],
  [(.LDA, .imm, 0xA9), (.LDA, .zp, 0xA5), (.LDA, .zpx, 0xB5), (.LDA, .abs, 0xAD), (.LDA, .absx, 0xBD), (.LDA, .absy, 0xB9),
   (.LDA, .indx, 0xA1), (.LDA, .indy, 0xB1)],
  [(.LDX, .imm, 0xA2), (.LDX, .zp, 0xA6), (.LDX, .zpy, 0xB6), (.LDX, .abs, 0xAE), (.LDX, .absy, 0xBE)],
  [(.LDY, .imm, 0xA0), (.LDY, .zp, 0xA4), (.LDY, .zpx, 0xB4), (.LDY, .abs, 0xAC), (.LDY, .absx, 0xBC)],
  [(.LSR, .acc, 0x4A), (.LSR, .zp, 0x46), (.LSR, .zpx, 0x56), (.LSR, .abs, 0x4E), (.LSR, .absx, 0x5E)],
  [(.NOP, .imp, 0xEA)],
  [(.ORA, .imm, 0x09), (.ORA, .zp, 0x05), (.ORA, .zpx, 0x15), (.ORA, .abs, 0x0D), (.ORA, .absx, 0x1D), (.ORA, .absy, 0x19),
   (.ORA, .indx, 0x01), (.ORA, .indy, 0x11)],
  [(.PHA, .imp, 0x48)],
  [(.PHP, .imp, 0x08)],
  [(.PLA, .imp, 0x68)],
  [(.PLP, .imp, 0x28)],
  [(.ROL, .acc, 0x2A), (.ROL, .zp, 0x26), (.ROL, .zpx, 0x36), (.ROL, .abs, 0x2E), (.ROL, .absx, 0x3E)],
  [(.ROR, .acc, 0x6A), (.ROR, .zp, 0x66), (.ROR, .zpx, 0x76), (.ROR, .abs, 0x6E), (.ROR, .absx, 0x7E)],
  [(.RTI, .imp, 0x40)],
  [(.RTS, .imp, 0x60)],
  [(.SBC, .imm, 0xE9), (.SBC, .zp, 0xE5), (.SBC, .zpx, 0xF5), (.SBC, .abs, 0xED), (.SBC, .absx, 0xFD), (.SBC, .absy, 0xF9),
   (.SBC, .indx, 0xE1), (.SBC, .indy, 0xF1)],
  [(.SEC, .imp, 0x38)],
  [(.SED, .imp, 0xF8)],
  [(.SEI, .imp, 0x78)],
  [(.STA, .zp, 0x85), (.STA, .zpx, 0x95), (.STA, .abs, 0x8D), (.STA, .absx, 0x9D), (.STA, .absy, 0x99), (.STA, .indx, 0x81),
   (.STA, .indy, 0x91)],
  [(.STX, .zp, 0x86), (.STX, .zpy, 0x96), (.STX, .abs, 0x8E)],
  [(.STY, .zp, 0x84), (.STY, .zpx, 0x94), (.STY, .abs, 0x8C)],
  [(.TAX, .imp, 0xAA)],
  [(.TAY, .imp, 0xA8)],
  [(.TSX, .imp, 0xBA)],
  [(.TXA, .imp, 0x8A)],
  [(.TXS, .imp, 0x9A)],
  [(.TYA, .imp, 0x98)]]

/-- The bytes 30_encoding R80 lists. -/
def illegalBytes : List Byte :=
  List.flatten (α := Byte) [
  [0x02, 0x03, 0x04, 0x07, 0x0B, 0x0C, 0x0F, 0x12, 0x13, 0x14, 0x17, 0x1A, 0x1B, 0x1C, 0x1F],
  [0x22, 0x23, 0x27, 0x2B, 0x2F, 0x32, 0x33, 0x34, 0x37, 0x3A, 0x3B, 0x3C, 0x3F, 0x42, 0x43],
  [0x44, 0x47, 0x4B, 0x4F, 0x52, 0x53, 0x54, 0x57, 0x5A, 0x5B, 0x5C, 0x5F, 0x62, 0x63, 0x64],
  [0x67, 0x6B, 0x6F, 0x72, 0x73, 0x74, 0x77, 0x7A, 0x7B, 0x7C, 0x7F, 0x80, 0x82, 0x83, 0x87],
  [0x89, 0x8B, 0x8F, 0x92, 0x93, 0x97, 0x9B, 0x9C, 0x9E, 0x9F, 0xA3, 0xA7, 0xAB, 0xAF, 0xB2],
  [0xB3, 0xB7, 0xBB, 0xBF, 0xC2, 0xC3, 0xC7, 0xCB, 0xCF, 0xD2, 0xD3, 0xD4, 0xD7, 0xDA, 0xDB],
  [0xDC, 0xDF, 0xE2, 0xE3, 0xE7, 0xEB, 0xEF, 0xF2, 0xF3, 0xF4, 0xF7, 0xFA, 0xFB, 0xFC, 0xFF]]

/-- `pack(b4)` as the sum of its bits (10_state R34). -/
def statusByte (f : Flags) (b4 : Bool) : Byte :=
  BitVec.ofNat 8 (128 * f.n.toNat + 64 * f.v.toNat + 32 + 16 * b4.toNat + 8 * f.d.toNat + 4 * f.i.toNat + 2 * f.z.toNat +
    f.c.toNat)

/-- The six flags of a byte by its bits (10_state R35). -/
def flagsOfByte (v : Byte) : Flags where
  n := decide (v.toNat / 128 % 2 = 1)
  v := decide (v.toNat / 64 % 2 = 1)
  d := decide (v.toNat / 8 % 2 = 1)
  i := decide (v.toNat / 4 % 2 = 1)
  z := decide (v.toNat / 2 % 2 = 1)
  c := decide (v.toNat % 2 = 1)

/-- The mnemonics that write N and Z (42_alu_and_flags R152). -/
def writersOfNZ : List Mnemonic :=
  [.LDA, .LDX, .LDY, .TAX, .TAY, .TXA, .TYA, .TSX, .PLA, .INC, .DEC, .INX, .INY, .DEX, .DEY, .ASL, .LSR, .ROL, .ROR,
   .AND, .ORA, .EOR, .CMP, .CPX, .CPY, .BIT, .ADC, .SBC, .PLP, .RTI]

/-- A byte of two decimal digits. -/
def validBcd (v : Byte) : Prop := v.toNat % 16 ≤ 9 ∧ v.toNat / 16 ≤ 9

/-- The number such a byte stands for. -/
def bcdValue (v : Byte) : Nat := 10 * (v.toNat / 16) + v.toNat % 16

/-! R84 of 30_encoding, column by column: the value of a symbolic mode, the mode chosen, the range, the operand. -/

/-- The value a symbolic mode stands for: its literal, `resolve(label) + off` or its constant; none where the name has
no value (R82, R83). -/
def valueOf (y : Symbols) : SymMode → Option Int
  | .none | .unrecognized => some 0
  | .immediateByte v | .immediate16Low (.num v) | .immediate16High (.num v) => some v
  | .immediate16Low (.label l) | .immediate16High (.label l) => y.labels.lookup l
  | .constantReference n | .constantReferenceLower n | .constantReferenceUpper n => y.consts.lookup n
  | .direct l off | .directIndexedX l off | .directIndexedY l off => (y.labels.lookup l).map fun v => v + off.getD 0
  | .indirectIndexedX l | .indirectIndexedY l | .indirectAbsolute l => y.labels.lookup l

/-- The name that has no value, where `valueOf` gives none. -/
def nameOf : SymMode → String
  | .immediate16Low (.label l) | .immediate16High (.label l) => l
  | .constantReference n | .constantReferenceLower n | .constantReferenceUpper n => n
  | .direct l _ | .directIndexedX l _ | .directIndexedY l _ => l
  | .indirectIndexedX l | .indirectIndexedY l | .indirectAbsolute l => l
  | .none | .unrecognized | .immediateByte _ | .immediate16Low (.num _) | .immediate16High (.num _) => ""

/-- The mnemonic has a cell in that column of R76. -/
def hasCell (mn : Mnemonic) (k : ModeKind) : Bool := opcodeMap.any fun row => decide (row.1 = mn ∧ row.2.1 = k)

/-- The hardware mode that R84 chooses for a value. -/
def kindOf (mn : Mnemonic) (v : Int) : SymMode → Option ModeKind
  | .none => some (if mn ∈ [Mnemonic.ASL, .LSR, .ROL, .ROR] then .acc else .imp)
  | .immediateByte _ | .immediate16Low _ | .immediate16High _ => some .imm
  | .constantReference _ | .constantReferenceLower _ | .constantReferenceUpper _ => some .imm
  | .direct _ _ =>
    some (if mn ∈ [Mnemonic.BCC, .BCS, .BEQ, .BNE, .BMI, .BPL, .BVC, .BVS] then .rel
      else if mn ∈ [Mnemonic.JMP, .JSR] then .abs
      else if v < 256 ∧ hasCell mn .zp = true then .zp else .abs)
  | .directIndexedX _ _ => some (if v < 256 ∧ hasCell mn .zpx = true then .zpx else .absx)
  | .directIndexedY _ _ => some (if v < 256 ∧ mn ∈ [Mnemonic.LDX, .STX] then .zpy else .absy)
  | .indirectIndexedX _ => some .indx
  | .indirectIndexedY _ => some .indy
  | .indirectAbsolute _ => some .ind
  | .unrecognized => none

/-- Whether the value is in the range R84 gives its variant. -/
def inRangeOf (v : Int) : SymMode → Bool
  | .immediateByte _ | .constantReference _ | .indirectIndexedX _ | .indirectIndexedY _ => decide (0 ≤ v ∧ v ≤ 255)
  | .immediate16Low _ | .immediate16High _ | .direct _ _ | .directIndexedX _ _ | .directIndexedY _ _ | .indirectAbsolute _ =>
    decide (0 ≤ v ∧ v ≤ 65535)
  | .none | .constantReferenceLower _ | .constantReferenceUpper _ | .unrecognized => true

/-- The operand that R84 takes of the value. -/
def operandOf (v : Int) : SymMode → Int
  | .immediate16Low _ | .constantReferenceLower _ => v % 256
  | .immediate16High _ | .constantReferenceUpper _ => v / 256 % 256
  | _ => v

end Sys2Proof.Claims

open Sys2Proof Sys2Proof.Machine Sys2Proof.Claims

/-- For every instruction i, with every operand value, and every list of bytes rest, decoding the bytes of i followed by rest gives i and rest. (R71, R72, R74, R76.) -/
def Obligations.DecodeOfEncodeIsTheInstruction : Prop :=
    ∀ (i : Instr) (rest : List Byte), decode (encode i ++ rest) = .instr i rest

/-- If a list of bytes decodes to an instruction i with the bytes rest left over, then the list is the encoding of i followed by rest: no byte sequence has a second encoding. (R76, R79.) -/
def Obligations.EncodeOfDecodeIsTheBytes : Prop :=
    ∀ (bs : List Byte) (i : Instr) (rest : List Byte), decode bs = .instr i rest → bs = encode i ++ rest

/-- For each of the 56 mnemonics, an instruction has that mnemonic exactly when its mode and opcode byte form one of the cells of its row in R76; the rows hold 151 distinct opcode bytes. (R76, R77, 30_encoding section 3.) -/
def Obligations.OpcodeMapIsTheTableOfR76 : Prop :=
    (∀ i : Instr, (i.mnemonic, i.mode.kind, i.opcode) ∈ opcodeMap) ∧
    (∀ (mn : Mnemonic) (k : ModeKind) (op : Byte), (mn, k, op) ∈ opcodeMap →
      ∃ i : Instr, i.mnemonic = mn ∧ i.mode.kind = k ∧ i.opcode = op) ∧
    (opcodeMap.map fun row => row.2.2).Nodup ∧ opcodeMap.length = 151

/-- The decoder has no instruction for a byte exactly when R80 lists it; R80 lists 105 bytes; such a byte is rejected by name whatever follows it. (R80, R79.) -/
def Obligations.TheIllegalBytesAreThoseOfR80 : Prop :=
    (∀ (op : Byte) (rest : List Byte), decode (op :: rest) = .illegal op ↔ op ∈ illegalBytes) ∧ illegalBytes.length = 105

/-- Two instructions have the same opcode byte exactly when they have the same mnemonic and the same kind of mode; the length of an encoding is that of its mode, 1 for imp and acc, 2 for imm, zp, zpx, zpy, indx, indy and rel, 3 for abs, absx, absy and ind. (R79, R78.) -/
def Obligations.OpcodeFixesMnemonicModeAndLength : Prop :=
    (∀ i j : Instr, i.opcode = j.opcode ↔ (i.mnemonic = j.mnemonic ∧ i.mode.kind = j.mode.kind)) ∧
    (∀ i : Instr, (encode i).length = lengthOfKind i.mode.kind)

/-- The words A9 42, 6C FF 02, 90 0E, 66 20, 24 40, 40, 69 01 and DE E5 02 of the rules' examples decode to LDA #$42, JMP ($02FF), BCC +14, ROR $20, BIT $40, RTI, ADC #$01 and DEC $02E5,X. (R72, R74, R156, R220, R197, R180, R192, R223, R231, R172.) -/
def Obligations.SampleWordsDecodeAsTheSpecSays : Prop :=
    decode [0xA9, 0x42] = .instr (.ldaImm 0x42) [] ∧
    decode [0x6C, 0xFF, 0x02] = .instr (.jmpInd 0x02FF) [] ∧
    decode [0x90, 0x0E] = .instr (.bcc 0x0E) [] ∧
    decode [0x66, 0x20] = .instr (.rorZp 0x20) [] ∧
    decode [0x24, 0x40] = .instr (.bitZp 0x40) [] ∧
    decode [0x40] = .instr .rti [] ∧
    decode [0x69, 0x01] = .instr (.adcImm 0x01) [] ∧
    decode [0xDE, 0xE5, 0x02] = .instr (.decAbsx 0x02E5) []

/-- In a running state: when the fetch gives the instruction i and the state t, the step is exec of i at t, and t differs from the state before only in the log of hook calls and in the model's started bit, which is set; with no read hooks, when the bytes of memory at PC, PC+1 and PC+2 (addresses wrapping) decode to the instruction i, the step is exec of i at the same state with the started bit set; with any hooks, the opcode byte is one bus read at PC, the operand bytes are bus reads at PC+1 and then PC+2 mod 65536, low byte first, as many as the length of i calls for and no more, and the step is exec of i at the state after them. The started bit is the model's own (log entry 8). (R62, R71, R98, R99, R100, R102, R106.) -/
def Obligations.StepRunsTheDecodedInstruction : Prop :=
    (∀ (s t : State) (i : Instr), s.Running → fetchDecode s = .instr i t →
      step s = exec i t ∧ t = { s with hookLog := t.hookLog, started := true }) ∧
    (∀ (s : State) (i : Instr) (rest : List Byte), s.Running → s.params.readHooks = [] →
      decode [s.byteAt s.pc, s.byteAt (s.pc + 1), s.byteAt (s.pc + 2)] = .instr i rest →
      step s = exec i { s with started := true }) ∧
    (∀ (s : State) (i : Instr) (rest : List Byte), s.Running →
      let op := busRead s.pc { s with started := true }
      let b1 := busRead (BitVec.ofNat 16 (s.pc.toNat + 1)) op.2
      let b2 := busRead (BitVec.ofNat 16 (s.pc.toNat + 2)) b1.2
      decode [op.1, b1.1, b2.1] = .instr i rest →
      step s = exec i (if lengthOfKind i.mode.kind = 1 then op.2 else if lengthOfKind i.mode.kind = 2 then b1.2 else b2.2))

/-- A step is enabled only when halted is 0 and fault is none: in any other state the step is the stop of that name, the recorded fault first, and the service changes nothing. That the stop is an outcome of its own is the model's form (log entry 7). (R97, R247, D14, D35.) -/
def Obligations.NoStepAndNoServiceInATerminalState : Prop :=
    (∀ (s : State) (k : FaultKind), s.fault = some k → step s = .fault (.recorded k) ∧ handleInterrupts s = s) ∧
    (∀ s : State, s.fault = none → s.halted = true → step s = .fault .halted ∧ handleInterrupts s = s) ∧
    (∀ s : State, s.Running → ∃ t, step s = .next t)

/-- In a running state, with any hooks, where the byte that one bus read at PC gives is one of the 105 illegal bytes: with P_ILLEGAL_OPCODE = fault the step sets fault to IllegalOpcode(opcode, PC) and changes no register, flag or memory byte, and PC stays; with nop1 it adds 1 to PC mod 65536 and changes nothing else; no operand byte is read, so that the log of hook calls is as the one read left it. With no read hooks the byte is that of memory at PC. The started bit is the model's own (log entry 8), and that the recorded fault is a next state is log entry 6. (R242, R98, R99, R80.) -/
def Obligations.IllegalOpcodeRecordsTheFault : Prop :=
    (∀ s : State, s.Running →
      let op := busRead s.pc { s with started := true }
      op.1 ∈ illegalBytes →
      (s.params.illegalOpcode = .fault → step s = .next { op.2 with fault := some (.illegalOpcode op.1 s.pc) }) ∧
      (s.params.illegalOpcode = .nop1 → step s = .next { op.2 with pc := BitVec.ofNat 16 (s.pc.toNat + 1) })) ∧
    (∀ s : State, s.Running → s.params.readHooks = [] → s.byteAt s.pc ∈ illegalBytes →
      (s.params.illegalOpcode = .fault →
        step s = .next { s with fault := some (.illegalOpcode (s.byteAt s.pc) s.pc), started := true }) ∧
      (s.params.illegalOpcode = .nop1 → step s = .next { s with pc := s.pc + 1, started := true }))

/-- A read at an address no read hook claims gives the byte of mem and changes nothing; where the first claiming hook answers, its answer is the byte and no later hook is asked; where it does not answer, the call is logged and the read goes on with the hooks after it, in order and by the same rule, and where no hook that claims the address answers, the byte is that of mem; a read changes nothing but the log of hook calls, which only grows. What a hook answers is a free value (log entry 2). (R51, R53, D18.) -/
def Obligations.BusReadAsksHooksInOrder : Prop :=
    (∀ (a : Word) (s : State), (∀ r ∈ s.params.readHooks, AddrRange.holds r a = false) → busRead a s = (s.byteAt a, s)) ∧
    (∀ (a : Word) (s : State) (before after : List AddrRange) (r : AddrRange),
      s.params.readHooks = before ++ r :: after → (∀ q ∈ before, AddrRange.holds q a = false) → AddrRange.holds r a = true →
      match Config.readHook s.hookLog before.length a with
      | some v => busRead a s = (v, { s with hookLog := .read before.length a (some v) :: s.hookLog })
      | none => (∀ q ∈ after, AddrRange.holds q a = false) →
        busRead a s = (s.byteAt a, { s with hookLog := .read before.length a none :: s.hookLog })) ∧
    (∀ (a : Word) (s : State),
      let q := tryReadHooks a 0 s.params.readHooks s.hookLog
      busRead a s = (match q.1 with | some v => v | none => s.byteAt a, { s with hookLog := q.2 })) ∧
    (∀ (a : Word) (k : Nat) (hooks : List AddrRange) (log : List HookCall),
      (∀ q ∈ hooks, AddrRange.holds q a = false) → tryReadHooks a k hooks log = (none, log)) ∧
    (∀ (a : Word) (k : Nat) (before after : List AddrRange) (r : AddrRange) (log : List HookCall),
      (∀ q ∈ before, AddrRange.holds q a = false) → AddrRange.holds r a = true →
      tryReadHooks a k (before ++ r :: after) log =
        match Config.readHook log (k + before.length) a with
        | some v => (some v, .read (k + before.length) a (some v) :: log)
        | none => tryReadHooks a (k + before.length + 1) after (.read (k + before.length) a none :: log)) ∧
    (∀ (a : Word) (s : State), (busRead a s).2 = { s with hookLog := (busRead a s).2.hookLog } ∧
      s.hookLog <:+ (busRead a s).2.hookLog)

/-- A write at an address no write hook claims puts the byte at that address, and every other byte of memory stays; where the first claiming hook handles it, mem is unchanged and no later hook is asked; where it does not, the call is logged and the write goes on with the hooks after it, in order and by the same rule, and where no hook that claims the address handles the write, the byte is put in mem; a write changes nothing but mem and the log of hook calls. Whether a hook handles a write is a free value (log entry 2). Memory is in its canonical form, which every step keeps. (R52, R53, D18.) -/
def Obligations.BusWriteAsksHooksInOrder : Prop :=
    (∀ (a b : Word) (v : Byte) (s : State), s.Inv → (∀ r ∈ s.params.writeHooks, AddrRange.holds r a = false) →
      (busWrite a v s).byteAt b = (if b = a then v else s.byteAt b) ∧ (busWrite a v s).hookLog = s.hookLog) ∧
    (∀ (a : Word) (v : Byte) (s : State) (before after : List AddrRange) (r : AddrRange), s.Inv →
      s.params.writeHooks = before ++ r :: after → (∀ q ∈ before, AddrRange.holds q a = false) → AddrRange.holds r a = true →
      match Config.writeHook s.hookLog before.length a v with
      | true => busWrite a v s = { s with hookLog := .write before.length a v true :: s.hookLog }
      | false => (∀ q ∈ after, AddrRange.holds q a = false) →
        (busWrite a v s).byteAt a = v ∧ (busWrite a v s).hookLog = .write before.length a v false :: s.hookLog) ∧
    (∀ (a b : Word) (v : Byte) (s : State), s.Inv →
      let q := tryWriteHooks a v 0 s.params.writeHooks s.hookLog
      (busWrite a v s).byteAt b = (if q.1 = false ∧ b = a then v else s.byteAt b) ∧ (busWrite a v s).hookLog = q.2 ∧
      (q.1 = true → (busWrite a v s).mem = s.mem)) ∧
    (∀ (a : Word) (v : Byte) (k : Nat) (hooks : List AddrRange) (log : List HookCall),
      (∀ q ∈ hooks, AddrRange.holds q a = false) → tryWriteHooks a v k hooks log = (false, log)) ∧
    (∀ (a : Word) (v : Byte) (k : Nat) (before after : List AddrRange) (r : AddrRange) (log : List HookCall),
      (∀ q ∈ before, AddrRange.holds q a = false) → AddrRange.holds r a = true →
      tryWriteHooks a v k (before ++ r :: after) log =
        match Config.writeHook log (k + before.length) a v with
        | true => (true, .write (k + before.length) a v true :: log)
        | false => tryWriteHooks a v (k + before.length + 1) after (.write (k + before.length) a v false :: log)) ∧
    (∀ (a b : Word) (v : Byte) (s : State), s.Inv → b ≠ a → (busWrite a v s).byteAt b = s.byteAt b) ∧
    (∀ (a : Word) (v : Byte) (s : State),
      busWrite a v s = { s with mem := (busWrite a v s).mem, hookLog := (busWrite a v s).hookLog } ∧
      s.hookLog <:+ (busWrite a v s).hookLog)

/-- Read16, Read16ZP and Read16Bug read the low byte first; the high byte comes from a+1 mod 65536, from (p+1) mod 256 in page 0, and from (a & 0xFF00) | ((a+1) & 0x00FF). (R56.) -/
def Obligations.SixteenBitReadsAreTwoByteReads : Prop :=
    (∀ (a : Word) (s : State),
      let lo := busRead a s
      let hi := busRead (BitVec.ofNat 16 (a.toNat + 1)) lo.2
      read16 a s = (BitVec.ofNat 16 (hi.1.toNat * 256 + lo.1.toNat), hi.2)) ∧
    (∀ (p : Byte) (s : State),
      let lo := busRead (BitVec.ofNat 16 p.toNat) s
      let hi := busRead (BitVec.ofNat 16 ((p.toNat + 1) % 256)) lo.2
      read16ZP p s = (BitVec.ofNat 16 (hi.1.toNat * 256 + lo.1.toNat), hi.2)) ∧
    (∀ (a : Word) (s : State),
      let lo := busRead a s
      let hi := busRead ((a &&& 0xFF00) ||| ((a + 1) &&& 0x00FF)) lo.2
      read16Bug a s = (BitVec.ofNat 16 (hi.1.toNat * 256 + lo.1.toNat), hi.2))

/-- Push(v) is MemWrite(0x0100 + SP, v) and then SP <- (SP - 1) mod 256; Pull() is SP <- (SP + 1) mod 256 and then the byte MemRead(0x0100 + SP). (R59, R60.) -/
def Obligations.PushWritesThenDecrements : Prop :=
    (∀ (v : Byte) (s : State),
      push v s = { busWrite (BitVec.ofNat 16 (0x0100 + s.sp.toNat)) v s with
                   sp := BitVec.ofNat 8 (s.sp.toNat + 255) }) ∧
    (∀ s : State,
      pull s = busRead (BitVec.ofNat 16 (0x0100 + (s.sp.toNat + 1) % 256))
                 { s with sp := BitVec.ofNat 8 (s.sp.toNat + 1) })

/-- With no hooks and memory in its canonical form, for every SP, a pull after a push gives the byte pushed, leaves SP as it was before the push, and does not change the byte in memory: the stack wraps within page 1 and nothing faults. (R61, R59, R60.) -/
def Obligations.PullGivesBackThePushedByte : Prop :=
    ∀ (v : Byte) (s : State), s.Inv → s.params.readHooks = [] → s.params.writeHooks = [] →
    pull (push v s) = (v, { s with mem := (push v s).mem }) ∧
    (push v s).byteAt (BitVec.ofNat 16 (0x0100 + s.sp.toNat)) = v

/-- EA is op8 for zp, (op8+X) mod 256 for zpx, (op8+Y) mod 256 for zpy, op16 for abs, (op16+X) mod 65536 for absx and (op16+Y) mod 65536 for absy; none of them accesses the bus or changes state. (R119, R120, R121, R122, R123, R124, R129.) -/
def Obligations.EffectiveAddressesOfTheDirectModes : Prop :=
    ∀ s : State,
    (∀ a : Byte, (effAddr (.zp a) s).1.toNat = a.toNat ∧ (effAddr (.zp a) s).2 = s) ∧
    (∀ a : Byte, (effAddr (.zpx a) s).1.toNat = (a.toNat + s.x.toNat) % 256 ∧ (effAddr (.zpx a) s).2 = s) ∧
    (∀ a : Byte, (effAddr (.zpy a) s).1.toNat = (a.toNat + s.y.toNat) % 256 ∧ (effAddr (.zpy a) s).2 = s) ∧
    (∀ a : Word, effAddr (.abs a) s = (a, s)) ∧
    (∀ a : Word, (effAddr (.absx a) s).1.toNat = (a.toNat + s.x.toNat) % 65536 ∧ (effAddr (.absx a) s).2 = s) ∧
    (∀ a : Word, (effAddr (.absy a) s).1.toNat = (a.toNat + s.y.toNat) % 65536 ∧ (effAddr (.absy a) s).2 = s)

/-- With no read hooks, (zp,X) takes the pointer at p = (op8+X) mod 256, its high byte from (p+1) mod 256; (zp),Y takes the pointer at op8, its high byte from (op8+1) mod 256, and adds Y mod 65536. With read hooks, the pointer is Read16ZP of the same address. (R125, R126.) -/
def Obligations.EffectiveAddressesOfTheIndirectModes : Prop :=
    (∀ (a : Byte) (s : State),
      effAddr (.indx a) s = read16ZP (BitVec.ofNat 8 (a.toNat + s.x.toNat)) s ∧
      effAddr (.indy a) s = ((read16ZP a s).1 + BitVec.ofNat 16 s.y.toNat, (read16ZP a s).2)) ∧
    (∀ (a : Byte) (s : State), s.params.readHooks = [] →
      let ptr := fun p : Nat => (s.byteAt (BitVec.ofNat 16 ((p + 1) % 256))).toNat * 256 +
        (s.byteAt (BitVec.ofNat 16 (p % 256))).toNat
      (effAddr (.indx a) s).1.toNat = ptr (a.toNat + s.x.toNat) ∧ (effAddr (.indx a) s).2 = s ∧
      (effAddr (.indy a) s).1.toNat = (ptr a.toNat + s.y.toNat) % 65536 ∧ (effAddr (.indy a) s).2 = s)

/-- For imm, M is op8 and nothing changes; for every memory mode, M is MemRead(EA), once, after the pointer reads; resolving and reading change nothing but the log of hook calls; with no read hooks M is the byte of memory at EA and nothing changes. (R103, R118, R53.) -/
def Obligations.OperandReadIsTheByteOrOneBusRead : Prop :=
    (∀ (v : Byte) (s : State), readOperand (.imm v) s = (v, s)) ∧
    (∀ (m : AddrMode) (s : State), readOperand (.mem m) s = busRead (effAddr m s).1 (effAddr m s).2) ∧
    (∀ (m : AddrMode) (s : State), (effAddr m s).2 = { s with hookLog := (effAddr m s).2.hookLog }) ∧
    (∀ (o : Operand) (s : State), (readOperand o s).2 = { s with hookLog := (readOperand o s).2.hookLog }) ∧
    (∀ (m : AddrMode) (s : State), s.params.readHooks = [] → readOperand (.mem m) s = (s.byteAt (effAddr m s).1, s))

/-- For every form of LDA, LDX and LDY, exec answers the next state in which the register is the operand read, N is its bit 7, Z tells whether it is 0, PC is PC_next, and everything else is as the operand read left it; each has exactly the modes and opcode bytes of its rule. (R156, R157, R158.) -/
def Obligations.LoadsSetTheRegisterAndNZ : Prop :=
    (∀ (i : Instr) (s : State), i.mnemonic = .LDA → ∃ o : Operand, i.mode = o.mode ∧
      let r := readOperand o s
      exec i s = .next { r.2 with a := r.1, p := { s.p with n := r.1.getLsbD 7, z := decide (r.1 = 0) }, pc := pcNext i s }) ∧
    hasForms .LDA [(.imm, 0xA9), (.zp, 0xA5), (.zpx, 0xB5), (.abs, 0xAD), (.absx, 0xBD), (.absy, 0xB9), (.indx, 0xA1), (.indy, 0xB1)] ∧
    (∀ (i : Instr) (s : State), i.mnemonic = .LDX → ∃ o : Operand, i.mode = o.mode ∧
      let r := readOperand o s
      exec i s = .next { r.2 with x := r.1, p := { s.p with n := r.1.getLsbD 7, z := decide (r.1 = 0) }, pc := pcNext i s }) ∧
    hasForms .LDX [(.imm, 0xA2), (.zp, 0xA6), (.zpy, 0xB6), (.abs, 0xAE), (.absy, 0xBE)] ∧
    (∀ (i : Instr) (s : State), i.mnemonic = .LDY → ∃ o : Operand, i.mode = o.mode ∧
      let r := readOperand o s
      exec i s = .next { r.2 with y := r.1, p := { s.p with n := r.1.getLsbD 7, z := decide (r.1 = 0) }, pc := pcNext i s }) ∧
    hasForms .LDY [(.imm, 0xA0), (.zp, 0xA4), (.zpx, 0xB4), (.abs, 0xAC), (.absx, 0xBC)]

/-- For every form of STA, STX and STY, exec answers the next state after one bus write of the register at the effective address and no read of it; no register and no flag changes and PC is PC_next; each has exactly the modes and opcode bytes of its rule. (R159, R160, R161, R105.) -/
def Obligations.StoresWriteTheRegisterAtEA : Prop :=
    (∀ (i : Instr) (s : State), i.mnemonic = .STA → ∃ m : AddrMode, i.mode = .mem m ∧
      let e := effAddr m s
      exec i s = .next { busWrite e.1 s.a e.2 with pc := pcNext i s }) ∧
    hasForms .STA [(.zp, 0x85), (.zpx, 0x95), (.abs, 0x8D), (.absx, 0x9D), (.absy, 0x99), (.indx, 0x81), (.indy, 0x91)] ∧
    (∀ (i : Instr) (s : State), i.mnemonic = .STX → ∃ m : AddrMode, i.mode = .mem m ∧
      let e := effAddr m s
      exec i s = .next { busWrite e.1 s.x e.2 with pc := pcNext i s }) ∧
    hasForms .STX [(.zp, 0x86), (.zpy, 0x96), (.abs, 0x8E)] ∧
    (∀ (i : Instr) (s : State), i.mnemonic = .STY → ∃ m : AddrMode, i.mode = .mem m ∧
      let e := effAddr m s
      exec i s = .next { busWrite e.1 s.y e.2 with pc := pcNext i s }) ∧
    hasForms .STY [(.zp, 0x84), (.zpx, 0x94), (.abs, 0x8C)]

/-- TAX, TAY, TXA, TYA and TSX copy the source register to the destination and set N and Z from it; TXS copies X to SP and changes no flag; PC becomes PC_next and nothing else changes; each has its one opcode byte. (R162, R163, R164, R165, R166, R167.) -/
def Obligations.TransfersCopyARegister : Prop :=
    (∀ s : State,
      exec .tax s = .next { s with x := s.a, p := { s.p with n := s.a.getLsbD 7, z := decide (s.a = 0) }, pc := s.pc + 1 } ∧
      exec .tay s = .next { s with y := s.a, p := { s.p with n := s.a.getLsbD 7, z := decide (s.a = 0) }, pc := s.pc + 1 } ∧
      exec .txa s = .next { s with a := s.x, p := { s.p with n := s.x.getLsbD 7, z := decide (s.x = 0) }, pc := s.pc + 1 } ∧
      exec .tya s = .next { s with a := s.y, p := { s.p with n := s.y.getLsbD 7, z := decide (s.y = 0) }, pc := s.pc + 1 } ∧
      exec .tsx s = .next { s with x := s.sp, p := { s.p with n := s.sp.getLsbD 7, z := decide (s.sp = 0) }, pc := s.pc + 1 } ∧
      exec .txs s = .next { s with sp := s.x, pc := s.pc + 1 }) ∧
    hasForms .TAX [(.imp, 0xAA)] ∧ hasForms .TAY [(.imp, 0xA8)] ∧ hasForms .TXA [(.imp, 0x8A)] ∧ hasForms .TYA [(.imp, 0x98)] ∧ hasForms .TSX [(.imp, 0xBA)] ∧ hasForms .TXS [(.imp, 0x9A)]

/-- For every form of INC and DEC, exec answers the next state after one bus read of EA and one bus write at EA of the byte plus or minus 1 mod 256; INX, INY, DEX and DEY do the same on their register with no bus access; N and Z come from the result; C, V and every other register stay; PC is PC_next; each has exactly the modes and opcode bytes of its rule. (R171, R172, R173, R174, R175, R176.) -/
def Obligations.IncrementsAndDecrementsWrap : Prop :=
    (∀ (i : Instr) (s : State), i.mnemonic = .INC → ∃ m : AddrMode, i.mode = .mem m ∧
      let e := effAddr m s
      let b := busRead e.1 e.2
      let r := BitVec.ofNat 8 (b.1.toNat + 1)
      exec i s = .next { busWrite e.1 r b.2 with
        p := { s.p with n := r.getLsbD 7, z := decide (r = 0) }, pc := pcNext i s }) ∧
    hasForms .INC [(.zp, 0xE6), (.zpx, 0xF6), (.abs, 0xEE), (.absx, 0xFE)] ∧
    (∀ (i : Instr) (s : State), i.mnemonic = .DEC → ∃ m : AddrMode, i.mode = .mem m ∧
      let e := effAddr m s
      let b := busRead e.1 e.2
      let r := BitVec.ofNat 8 (b.1.toNat + 255)
      exec i s = .next { busWrite e.1 r b.2 with
        p := { s.p with n := r.getLsbD 7, z := decide (r = 0) }, pc := pcNext i s }) ∧
    hasForms .DEC [(.zp, 0xC6), (.zpx, 0xD6), (.abs, 0xCE), (.absx, 0xDE)] ∧
    (∀ s : State,
      (let r := BitVec.ofNat 8 (s.x.toNat + 1)
       exec .inx s = .next { s with x := r, p := { s.p with n := r.getLsbD 7, z := decide (r = 0) }, pc := s.pc + 1 }) ∧
      (let r := BitVec.ofNat 8 (s.y.toNat + 1)
       exec .iny s = .next { s with y := r, p := { s.p with n := r.getLsbD 7, z := decide (r = 0) }, pc := s.pc + 1 }) ∧
      (let r := BitVec.ofNat 8 (s.x.toNat + 255)
       exec .dex s = .next { s with x := r, p := { s.p with n := r.getLsbD 7, z := decide (r = 0) }, pc := s.pc + 1 }) ∧
      (let r := BitVec.ofNat 8 (s.y.toNat + 255)
       exec .dey s = .next { s with y := r, p := { s.p with n := r.getLsbD 7, z := decide (r = 0) }, pc := s.pc + 1 })) ∧
    hasForms .INX [(.imp, 0xE8)] ∧ hasForms .INY [(.imp, 0xC8)] ∧ hasForms .DEX [(.imp, 0xCA)] ∧ hasForms .DEY [(.imp, 0x88)]

/-- For every form, ASL gives v*2 mod 256 with C = v[7], LSR gives v/2 with C = v[0]; N and Z come from the result, V stays, the incoming C is not used; in accumulator mode A is read and written with no bus access, in a memory mode there is one read and one write of EA; PC is PC_next; each has exactly the modes and opcode bytes of its rule. (R177, R178.) -/
def Obligations.ShiftsMoveTheEndBitToCarry : Prop :=
    (∀ (i : Instr) (s : State), i.mnemonic = .ASL →
      (i.mode = .acc ∧
        let v := s.a
        let r := BitVec.ofNat 8 (2 * v.toNat)
        exec i s = .next { s with a := r, p := { s.p with n := r.getLsbD 7, z := decide (r = 0), c := v.getLsbD 7 }, pc := s.pc + 1 }) ∨
      (∃ m : AddrMode, i.mode = .mem m ∧
        let e := effAddr m s
        let b := busRead e.1 e.2
        let v := b.1
        let r := BitVec.ofNat 8 (2 * v.toNat)
        exec i s = .next { busWrite e.1 r b.2 with
          p := { s.p with n := r.getLsbD 7, z := decide (r = 0), c := v.getLsbD 7 }, pc := pcNext i s })) ∧
    hasForms .ASL [(.acc, 0x0A), (.zp, 0x06), (.zpx, 0x16), (.abs, 0x0E), (.absx, 0x1E)] ∧
    (∀ (i : Instr) (s : State), i.mnemonic = .LSR →
      (i.mode = .acc ∧
        let v := s.a
        let r := BitVec.ofNat 8 (v.toNat / 2)
        exec i s = .next { s with a := r, p := { s.p with n := r.getLsbD 7, z := decide (r = 0), c := v.getLsbD 0 }, pc := s.pc + 1 }) ∨
      (∃ m : AddrMode, i.mode = .mem m ∧
        let e := effAddr m s
        let b := busRead e.1 e.2
        let v := b.1
        let r := BitVec.ofNat 8 (v.toNat / 2)
        exec i s = .next { busWrite e.1 r b.2 with
          p := { s.p with n := r.getLsbD 7, z := decide (r = 0), c := v.getLsbD 0 }, pc := pcNext i s })) ∧
    hasForms .LSR [(.acc, 0x4A), (.zp, 0x46), (.zpx, 0x56), (.abs, 0x4E), (.absx, 0x5E)]

/-- For every form, ROL gives (2*v + C) mod 256 with the new C = v[7], ROR gives v/2 + 128*C with the new C = v[0], where C is the carry before; N and Z come from the result, V stays; the accumulator and memory forms are as for ASL; PC is PC_next; each has exactly the modes and opcode bytes of its rule. (R179, R180.) -/
def Obligations.RotatesPassThroughCarry : Prop :=
    (∀ (i : Instr) (s : State), i.mnemonic = .ROL →
      (i.mode = .acc ∧
        let v := s.a
        let r := BitVec.ofNat 8 (2 * v.toNat + s.p.c.toNat)
        exec i s = .next { s with a := r, p := { s.p with n := r.getLsbD 7, z := decide (r = 0), c := v.getLsbD 7 }, pc := s.pc + 1 }) ∨
      (∃ m : AddrMode, i.mode = .mem m ∧
        let e := effAddr m s
        let b := busRead e.1 e.2
        let v := b.1
        let r := BitVec.ofNat 8 (2 * v.toNat + s.p.c.toNat)
        exec i s = .next { busWrite e.1 r b.2 with
          p := { s.p with n := r.getLsbD 7, z := decide (r = 0), c := v.getLsbD 7 }, pc := pcNext i s })) ∧
    hasForms .ROL [(.acc, 0x2A), (.zp, 0x26), (.zpx, 0x36), (.abs, 0x2E), (.absx, 0x3E)] ∧
    (∀ (i : Instr) (s : State), i.mnemonic = .ROR →
      (i.mode = .acc ∧
        let v := s.a
        let r := BitVec.ofNat 8 (v.toNat / 2 + 128 * s.p.c.toNat)
        exec i s = .next { s with a := r, p := { s.p with n := r.getLsbD 7, z := decide (r = 0), c := v.getLsbD 0 }, pc := s.pc + 1 }) ∨
      (∃ m : AddrMode, i.mode = .mem m ∧
        let e := effAddr m s
        let b := busRead e.1 e.2
        let v := b.1
        let r := BitVec.ofNat 8 (v.toNat / 2 + 128 * s.p.c.toNat)
        exec i s = .next { busWrite e.1 r b.2 with
          p := { s.p with n := r.getLsbD 7, z := decide (r = 0), c := v.getLsbD 0 }, pc := pcNext i s })) ∧
    hasForms .ROR [(.acc, 0x6A), (.zp, 0x66), (.zpx, 0x76), (.abs, 0x6E), (.absx, 0x7E)]

/-- For every form of AND, ORA and EOR, exec answers the next state in which A is A &, | or ^ the operand read, N and Z come from the result, and everything else is as the operand read left it but PC, which is PC_next; each has exactly the modes and opcode bytes of its rule. (R186, R187, R188.) -/
def Obligations.LogicalOperationsCombineAWithTheOperand : Prop :=
    (∀ (i : Instr) (s : State), i.mnemonic = .AND → ∃ o : Operand, i.mode = o.mode ∧
      let r := readOperand o s
      let v := s.a &&& r.1
      exec i s = .next { r.2 with a := v, p := { s.p with n := v.getLsbD 7, z := decide (v = 0) }, pc := pcNext i s }) ∧
    hasForms .AND [(.imm, 0x29), (.zp, 0x25), (.zpx, 0x35), (.abs, 0x2D), (.absx, 0x3D), (.absy, 0x39), (.indx, 0x21), (.indy, 0x31)] ∧
    (∀ (i : Instr) (s : State), i.mnemonic = .ORA → ∃ o : Operand, i.mode = o.mode ∧
      let r := readOperand o s
      let v := s.a ||| r.1
      exec i s = .next { r.2 with a := v, p := { s.p with n := v.getLsbD 7, z := decide (v = 0) }, pc := pcNext i s }) ∧
    hasForms .ORA [(.imm, 0x09), (.zp, 0x05), (.zpx, 0x15), (.abs, 0x0D), (.absx, 0x1D), (.absy, 0x19), (.indx, 0x01), (.indy, 0x11)] ∧
    (∀ (i : Instr) (s : State), i.mnemonic = .EOR → ∃ o : Operand, i.mode = o.mode ∧
      let r := readOperand o s
      let v := s.a ^^^ r.1
      exec i s = .next { r.2 with a := v, p := { s.p with n := v.getLsbD 7, z := decide (v = 0) }, pc := pcNext i s }) ∧
    hasForms .EOR [(.imm, 0x49), (.zp, 0x45), (.zpx, 0x55), (.abs, 0x4D), (.absx, 0x5D), (.absy, 0x59), (.indx, 0x41), (.indy, 0x51)]

/-- For every form of CMP, CPX and CPY, exec answers the next state in which C tells whether the register is at least the operand as unsigned numbers, Z whether they are equal, N is bit 7 of the 8-bit difference; no register but PC changes, V, D and I stay, and neither D nor the incoming C has an effect; each has exactly the modes and opcode bytes of its rule. (R189, R190, R191, R147.) -/
def Obligations.ComparesSetNZCFromTheDifference : Prop :=
    (∀ (i : Instr) (s : State), i.mnemonic = .CMP → ∃ o : Operand, i.mode = o.mode ∧
      let r := readOperand o s
      let d := BitVec.ofNat 8 (s.a.toNat + 256 - r.1.toNat)
      exec i s = .next { r.2 with
        p := { s.p with n := d.getLsbD 7, z := decide (s.a = r.1), c := decide (s.a.toNat ≥ r.1.toNat) }, pc := pcNext i s }) ∧
    hasForms .CMP [(.imm, 0xC9), (.zp, 0xC5), (.zpx, 0xD5), (.abs, 0xCD), (.absx, 0xDD), (.absy, 0xD9), (.indx, 0xC1), (.indy, 0xD1)] ∧
    (∀ (i : Instr) (s : State), i.mnemonic = .CPX → ∃ o : Operand, i.mode = o.mode ∧
      let r := readOperand o s
      let d := BitVec.ofNat 8 (s.x.toNat + 256 - r.1.toNat)
      exec i s = .next { r.2 with
        p := { s.p with n := d.getLsbD 7, z := decide (s.x = r.1), c := decide (s.x.toNat ≥ r.1.toNat) }, pc := pcNext i s }) ∧
    hasForms .CPX [(.imm, 0xE0), (.zp, 0xE4), (.abs, 0xEC)] ∧
    (∀ (i : Instr) (s : State), i.mnemonic = .CPY → ∃ o : Operand, i.mode = o.mode ∧
      let r := readOperand o s
      let d := BitVec.ofNat 8 (s.y.toNat + 256 - r.1.toNat)
      exec i s = .next { r.2 with
        p := { s.p with n := d.getLsbD 7, z := decide (s.y = r.1), c := decide (s.y.toNat ≥ r.1.toNat) }, pc := pcNext i s }) ∧
    hasForms .CPY [(.imm, 0xC0), (.zp, 0xC4), (.abs, 0xCC)]

/-- For both forms of BIT, exec answers the next state in which Z tells whether A & M is 0, N is M[7] and V is M[6], where M is the byte read at EA; A, C and everything else stay but PC, which is PC_next; it has exactly the modes and opcode bytes of its rule. (R192, R148.) -/
def Obligations.BitTestsAAgainstTheByte : Prop :=
    (∀ (i : Instr) (s : State), i.mnemonic = .BIT → ∃ m : AddrMode, i.mode = .mem m ∧
      let e := effAddr m s
      let b := busRead e.1 e.2
      exec i s = .next { b.2 with
        p := { s.p with n := b.1.getLsbD 7, v := b.1.getLsbD 6, z := decide (s.a &&& b.1 = 0) }, pc := pcNext i s }) ∧
    hasForms .BIT [(.zp, 0x24), (.abs, 0x2C)]

/-- For each of the eight branches and every offset byte, exec answers the next state that differs only in PC: trunc16(PC + 2 + sext8(offset)) when the predicate of R150 holds, else PC + 2; each has its one opcode byte. (R197, R198, R199, R200, R201, R202, R203, R204, R128, R150.) -/
def Obligations.BranchesMovePcByTheirPredicate : Prop :=
    (∀ (off : Byte) (s : State),
      let taken : Word := BitVec.ofInt 16 ((s.pc.toNat : Int) + 2 + off.toInt)
      let skipped : Word := BitVec.ofNat 16 (s.pc.toNat + 2)
      exec (.bcc off) s = .next { s with pc := if s.p.c = false then taken else skipped } ∧
      exec (.bcs off) s = .next { s with pc := if s.p.c = true then taken else skipped } ∧
      exec (.beq off) s = .next { s with pc := if s.p.z = true then taken else skipped } ∧
      exec (.bne off) s = .next { s with pc := if s.p.z = false then taken else skipped } ∧
      exec (.bmi off) s = .next { s with pc := if s.p.n = true then taken else skipped } ∧
      exec (.bpl off) s = .next { s with pc := if s.p.n = false then taken else skipped } ∧
      exec (.bvc off) s = .next { s with pc := if s.p.v = false then taken else skipped } ∧
      exec (.bvs off) s = .next { s with pc := if s.p.v = true then taken else skipped }) ∧
    hasForms .BCC [(.rel, 0x90)] ∧ hasForms .BCS [(.rel, 0xB0)] ∧ hasForms .BEQ [(.rel, 0xF0)] ∧ hasForms .BNE [(.rel, 0xD0)] ∧ hasForms .BMI [(.rel, 0x30)] ∧ hasForms .BPL [(.rel, 0x10)] ∧ hasForms .BVC [(.rel, 0x50)] ∧ hasForms .BVS [(.rel, 0x70)]

/-- Each flag instruction sets or clears exactly its flag; PC becomes PC_next; every other flag, register and byte of memory stays; each has its one opcode byte. (R205, R206, R207, R208, R209, R210, R211.) -/
def Obligations.FlagInstructionsAssignOneFlag : Prop :=
    (∀ s : State,
      exec .clc s = .next { s with p := { s.p with c := false }, pc := s.pc + 1 } ∧
      exec .sec s = .next { s with p := { s.p with c := true }, pc := s.pc + 1 } ∧
      exec .cli s = .next { s with p := { s.p with i := false }, pc := s.pc + 1 } ∧
      exec .sei s = .next { s with p := { s.p with i := true }, pc := s.pc + 1 } ∧
      exec .cld s = .next { s with p := { s.p with d := false }, pc := s.pc + 1 } ∧
      exec .sed s = .next { s with p := { s.p with d := true }, pc := s.pc + 1 } ∧
      exec .clv s = .next { s with p := { s.p with v := false }, pc := s.pc + 1 }) ∧
    hasForms .CLC [(.imp, 0x18)] ∧ hasForms .SEC [(.imp, 0x38)] ∧ hasForms .CLI [(.imp, 0x58)] ∧ hasForms .SEI [(.imp, 0x78)] ∧ hasForms .CLD [(.imp, 0xD8)] ∧ hasForms .SED [(.imp, 0xF8)] ∧ hasForms .CLV [(.imp, 0xB8)]

/-- PHA answers the next state after Push(A) with PC at PC_next and no flag changed; PLA answers the next state after Pull() with A the byte pulled, N and Z from it, and PC at PC_next; each has its one opcode byte. (R216, R217.) -/
def Obligations.AccumulatorPushAndPull : Prop :=
    (∀ s : State,
      exec .pha s = .next { push s.a s with pc := s.pc + 1 } ∧
      (let q := pull s
       exec .pla s = .next { q.2 with a := q.1, p := { s.p with n := q.1.getLsbD 7, z := decide (q.1 = 0) }, pc := s.pc + 1 })) ∧
    hasForms .PHA [(.imp, 0x48)] ∧ hasForms .PLA [(.imp, 0x68)]

/-- PHP pushes N<<7 | V<<6 | 1<<5 | b4<<4 | D<<3 | I<<2 | Z<<1 | C with b4 = P_B_PUSH_PHP and changes no flag; PLP pulls a byte and takes N, V, D, I, Z and C from its bits 7, 6, 3, 2, 1 and 0, bits 5 and 4 having no effect; PC becomes PC_next; each has its one opcode byte; the decided P_B_PUSH_PHP is 1. (R218, R219, R35.) -/
def Obligations.StatusPushAndPull : Prop :=
    (∀ s : State,
      exec .php s = .next { push (statusByte s.p s.params.bPushPhp) s with pc := s.pc + 1 } ∧
      (let q := pull s
       exec .plp s = .next { q.2 with p := flagsOfByte q.1, pc := s.pc + 1 })) ∧
    (∀ (f : Flags) (b4 : Bool), pack f b4 = statusByte f b4) ∧ (∀ v : Byte, unpack v = flagsOfByte v) ∧
    Params.decided.bPushPhp = true ∧ hasForms .PHP [(.imp, 0x08)] ∧ hasForms .PLP [(.imp, 0x28)]

/-- JMP abs answers the next state that differs only in PC, which is op16; JMP (abs) sets PC to Read16Bug(op16), low byte from op16 and high byte from (op16 & 0xFF00) | ((op16 + 1) & 0x00FF), and changes nothing but PC and the log of hook calls; JMP has exactly these two forms. (R220, R127.) -/
def Obligations.JumpsSetPc : Prop :=
    (∀ (a : Word) (s : State), exec (.jmpAbs a) s = .next { s with pc := a }) ∧
    (∀ (a : Word) (s : State),
      let lo := busRead a s
      let hi := busRead ((a &&& 0xFF00) ||| ((a + 1) &&& 0x00FF)) lo.2
      exec (.jmpInd a) s = .next { s with
        pc := BitVec.ofNat 16 (hi.1.toNat * 256 + lo.1.toNat), hookLog := hi.2.hookLog }) ∧
    hasForms .JMP [(.abs, 0x4C), (.ind, 0x6C)]

/-- JSR answers the next state after pushing the high byte and then the low byte of trunc16(PC + 2), with PC = op16; RTS answers the next state after pulling the low byte and then the high byte, with PC = trunc16(hi:lo + 1); no flag changes; each has its one opcode byte. (R221, R222.) -/
def Obligations.SubroutineCallAndReturn : Prop :=
    (∀ (a : Word) (s : State),
      let ret := (s.pc.toNat + 2) % 65536
      exec (.jsr a) s = .next { push (BitVec.ofNat 8 (ret % 256)) (push (BitVec.ofNat 8 (ret / 256)) s) with pc := a }) ∧
    (∀ s : State,
      let lo := pull s
      let hi := pull lo.2
      exec .rts s = .next { hi.2 with pc := BitVec.ofNat 16 (hi.1.toNat * 256 + lo.1.toNat + 1) }) ∧
    hasForms .JSR [(.abs, 0x20)] ∧ hasForms .RTS [(.imp, 0x60)]

/-- RTI answers the next state after pulling the status byte, from which all six flags come, then the low byte and the high byte of PC, with PC = hi:lo; it has its one opcode byte. (R223.) -/
def Obligations.ReturnFromInterruptPullsFlagsThenPc : Prop :=
    (∀ s : State,
      let q := pull s
      let lo := pull { q.2 with p := flagsOfByte q.1 }
      let hi := pull lo.2
      exec .rti s = .next { hi.2 with pc := BitVec.ofNat 16 (hi.1.toNat * 256 + lo.1.toNat) }) ∧
    (∀ s : State, ∃ t, exec .rti s = .next t ∧ t.p = flagsOfByte (pull s).1 ∧ t.nmiPending = s.nmiPending) ∧
    hasForms .RTI [(.imp, 0x40)]

/-- BRK answers the next state with halted = 1 and PC = trunc16(PC + P_BRK_PC_ADVANCE), everything else unchanged: no push, no vector read, no flag; NOP answers the next state with PC = PC_next and everything else unchanged; after BRK the core takes no step and no service; in the decoded interface NOP changes nothing, PC included; each has its one opcode byte; the decided advance is 1. (R224, R225.) -/
def Obligations.BreakHaltsAndNopOnlyAdvances : Prop :=
    (∀ s : State,
      exec .brk s = .next { s with halted := true, pc := s.pc + s.params.brkAdvance } ∧
      exec .nop s = .next { s with pc := s.pc + 1 }) ∧
    (∀ s t u : State, s.fault = none → exec .brk s = .next t → step t ≠ .next u ∧ handleInterrupts t = t) ∧
    (∀ (y : Symbols) (s : State), s.Running →
      ∃ t, executeDecoded y .NOP .none s = .next t ∧ observe t = observe s ∧ t.nmiPending = s.nmiPending) ∧
    Params.decided.brkAdvance = 1 ∧
    hasForms .BRK [(.imp, 0x00)] ∧ hasForms .NOP [(.imp, 0xEA)]

/-- For every form of ADC with D = 0 or P_DECIMAL_ENABLED false, exec answers the next state in which A is (A+M+C) mod 256, C tells whether the exact sum exceeds 255, V is set when A and M have the same sign and the result another, which is when the exact signed sum is outside -128..127, N and Z come from the result; D, I, X, Y, SP stay and PC is PC_next. (R231, R137, R151.) -/
def Obligations.BinaryAdditionOfADC : Prop :=
    ∀ (i : Instr) (s : State), i.mnemonic = .ADC → (s.p.d && s.params.decimalEnabled) = false →
    ∃ o : Operand, i.mode = o.mode ∧
      let r := readOperand o s
      let sum := s.a.toNat + r.1.toNat + s.p.c.toNat
      let v := BitVec.ofNat 8 sum
      let signed : Int := s.a.toInt + r.1.toInt + (s.p.c.toNat : Int)
      exec i s = .next { r.2 with
        a := v
        p := { s.p with n := v.getLsbD 7, v := decide (signed < -128 ∨ 127 < signed), z := decide (v = 0), c := decide (sum > 255) }
        pc := pcNext i s }

/-- For every form of SBC with D = 0 or P_DECIMAL_ENABLED false, exec answers the next state in which A is A - M - (1-C) mod 256, C tells whether the exact difference is at least 0, V is set when the exact signed difference is outside -128..127, N and Z come from the result; D, I, X, Y, SP stay and PC is PC_next. (R232, R138, R151.) -/
def Obligations.BinarySubtractionOfSBC : Prop :=
    ∀ (i : Instr) (s : State), i.mnemonic = .SBC → (s.p.d && s.params.decimalEnabled) = false →
    ∃ o : Operand, i.mode = o.mode ∧
      let r := readOperand o s
      let diff : Int := (s.a.toNat : Int) - r.1.toNat - (1 - (s.p.c.toNat : Int))
      let v := BitVec.ofInt 8 diff
      let signed : Int := s.a.toInt - r.1.toInt - (1 - (s.p.c.toNat : Int))
      exec i s = .next { r.2 with
        a := v
        p := { s.p with n := v.getLsbD 7, v := decide (signed < -128 ∨ 127 < signed), z := decide (v = 0), c := decide (0 ≤ diff) }
        pc := pcNext i s }

/-- For every form of ADC with D = 1 and P_DECIMAL_ENABLED, exec answers the next state in which A, Z and C are those of the nibble-wise sum of R139, for every operand, valid BCD or not; N and V are some values the statement does not fix; D and I stay; PC is PC_next; nothing else changes but the model's count of draws (log entry 4), which grows by one. (R231, R139, R141, R151.) -/
def Obligations.DecimalAdditionOfADC : Prop :=
    ∀ (i : Instr) (s : State), i.mnemonic = .ADC → (s.p.d && s.params.decimalEnabled) = true →
    ∃ o : Operand, i.mode = o.mode ∧
      let r := readOperand o s
      ∃ n v : Bool,
      let lo := s.a.toNat % 16 + r.1.toNat % 16 + s.p.c.toNat
      let nc := if lo > 9 then 1 else 0
      let hi := s.a.toNat / 16 + r.1.toNat / 16 + nc
      let res := BitVec.ofNat 8 (16 * ((if hi > 9 then hi + 6 else hi) % 16) + (if lo > 9 then lo + 6 else lo) % 16)
      exec i s = .next { r.2 with
        a := res, p := { s.p with n := n, v := v, z := decide (res = 0), c := decide (hi > 9) }
        pc := pcNext i s, draws := s.draws + 1 }

/-- For every form of SBC with D = 1 and P_DECIMAL_ENABLED, exec answers the next state in which A, Z and C are those of the nibble-wise difference of R140, for every operand, valid BCD or not; C equals the binary no-borrow; N and V are some values the statement does not fix; D and I stay; PC is PC_next; nothing else changes but the model's count of draws (log entry 4), which grows by one. (R232, R140, R141, R151.) -/
def Obligations.DecimalSubtractionOfSBC : Prop :=
    ∀ (i : Instr) (s : State), i.mnemonic = .SBC → (s.p.d && s.params.decimalEnabled) = true →
    ∃ o : Operand, i.mode = o.mode ∧
      let r := readOperand o s
      ∃ n v : Bool,
      let lo : Int := ((s.a.toNat % 16 : Nat) : Int) - ((r.1.toNat % 16 : Nat) : Int) - (1 - (s.p.c.toNat : Int))
      let nb : Int := if lo < 0 then 1 else 0
      let hi : Int := ((s.a.toNat / 16 : Nat) : Int) - ((r.1.toNat / 16 : Nat) : Int) - nb
      let res := BitVec.ofInt 8 (16 * ((if hi < 0 then hi - 6 else hi) % 16) + (if lo < 0 then lo - 6 else lo) % 16)
      decide (0 ≤ hi) = decide (r.1.toNat + (1 - s.p.c.toNat) ≤ s.a.toNat) ∧
      exec i s = .next { r.2 with
        a := res, p := { s.p with n := n, v := v, z := decide (res = 0), c := decide (0 ≤ hi) }
        pc := pcNext i s, draws := s.draws + 1 }

/-- With D = 0 or P_DECIMAL_ENABLED false, SBC of an immediate byte and ADC of its complement answer the same next state, A and all flags included. (R138, R232, 90_conflicts C1.) -/
def Obligations.BinarySbcIsAdcOfTheComplement : Prop :=
    ∀ (b : Byte) (s : State), (s.p.d && s.params.decimalEnabled) = false →
    ∃ t, exec (.sbcImm b) s = .next t ∧ exec (.adcImm (~~~b)) s = .next t

/-- When D = 1, P_DECIMAL_ENABLED and both A and the operand are valid BCD: the result of ADC is valid BCD, and its value plus 100 times the carry out is the sum of the two values and the carry in; the result of SBC is valid BCD, and its value is the difference of the two values less the borrow in, plus 100 when C comes out 0. (R139, R140, R231, R232.) -/
def Obligations.BcdArithmeticIsDecimalArithmetic : Prop :=
    ∀ (b : Byte) (s : State), (s.p.d && s.params.decimalEnabled) = true → validBcd s.a → validBcd b →
    (∃ t, exec (.adcImm b) s = .next t ∧ validBcd t.a ∧
      bcdValue t.a + 100 * t.p.c.toNat = bcdValue s.a + bcdValue b + s.p.c.toNat) ∧
    (∃ t, exec (.sbcImm b) s = .next t ∧ validBcd t.a ∧
      (bcdValue t.a : Int) = (bcdValue s.a : Int) - bcdValue b - (1 - (s.p.c.toNat : Int)) + 100 * (1 - (t.p.c.toNat : Int)))

/-- Whatever next state exec answers: N stays but for the mnemonics that write it, V but for ADC, SBC, BIT, CLV, PLP and RTI, D but for CLD, SED, PLP and RTI, I but for CLI, SEI, PLP and RTI, Z but for those that write N and Z, C but for the shifts, rotates, compares, ADC, SBC, CLC, SEC, PLP and RTI. (R152, R28, R29, R30, R31, R32, R33.) -/
def Obligations.FlagFrameOfEveryInstruction : Prop :=
    ∀ (i : Instr) (s t : State), exec i s = .next t →
    (i.mnemonic ∉ writersOfNZ → t.p.n = s.p.n ∧ t.p.z = s.p.z) ∧
    (i.mnemonic ∉ [.ADC, .SBC, .BIT, .CLV, .PLP, .RTI] → t.p.v = s.p.v) ∧
    (i.mnemonic ∉ [.CLD, .SED, .PLP, .RTI] → t.p.d = s.p.d) ∧
    (i.mnemonic ∉ [.CLI, .SEI, .PLP, .RTI] → t.p.i = s.p.i) ∧
    (i.mnemonic ∉ [.ASL, .LSR, .ROL, .ROR, .CMP, .CPX, .CPY, .ADC, .SBC, .CLC, .SEC, .PLP, .RTI] → t.p.c = s.p.c)

/-- Whatever next state exec answers: A stays but for LDA, TXA, TYA, PLA, AND, ORA, EOR, ADC, SBC and the accumulator forms of the shifts; X but for LDX, TAX, TSX, INX, DEX; Y but for LDY, TAY, INY, DEY; SP but for TXS, PHA, PHP, PLA, PLP, JSR, RTS, RTI; PC is PC_next but for JMP, JSR, RTS, RTI, BRK and the branches. (R22, R23, R24, R25, R26, R101.) -/
def Obligations.RegisterFrameOfEveryInstruction : Prop :=
    ∀ (i : Instr) (s t : State), exec i s = .next t →
    (i.mnemonic ∉ [.LDA, .TXA, .TYA, .PLA, .AND, .ORA, .EOR, .ADC, .SBC] → i.mode ≠ .acc → t.a = s.a) ∧
    (i.mnemonic ∉ [.LDX, .TAX, .TSX, .INX, .DEX] → t.x = s.x) ∧
    (i.mnemonic ∉ [.LDY, .TAY, .INY, .DEY] → t.y = s.y) ∧
    (i.mnemonic ∉ [.TXS, .PHA, .PHP, .PLA, .PLP, .JSR, .RTS, .RTI] → t.sp = s.sp) ∧
    (i.mnemonic ∉ [.JMP, .JSR, .RTS, .RTI, .BRK, .BCC, .BCS, .BEQ, .BNE, .BMI, .BPL, .BVC, .BVS] → t.pc = pcNext i s)

/-- For every instruction but STA, STX, STY, the memory forms of INC, DEC, ASL, LSR, ROL and ROR, and PHA, PHP and JSR, every address reads after it as before it. (R106, R103, R60.) -/
def Obligations.MemoryFrameOfTheNonStoringInstructions : Prop :=
    ∀ (i : Instr) (s t : State), exec i s = .next t → i.mnemonic ∉ [.STA, .STX, .STY, .INC, .DEC, .PHA, .PHP, .JSR] →
    (i.mnemonic ∈ [.ASL, .LSR, .ROL, .ROR] → i.mode = .acc) →
    ∀ a : Word, t.byteAt a = s.byteAt a

/-- For STA, STX, STY, INC, DEC and the memory forms of ASL, LSR, ROL and ROR, every byte of memory but the one at the effective address, computed in the state before, reads after as before; with no hook in the way the byte at EA of a store is the register. Memory is in its canonical form, which every step keeps. (R104, R105, R159, R160, R161, R171, R172, R177, R178, R179, R180.) -/
def Obligations.MemoryFrameOfStoresAndModifications : Prop :=
    (∀ (i : Instr) (m : AddrMode) (s t : State), s.Inv →
      i.mnemonic ∈ [.STA, .STX, .STY, .INC, .DEC, .ASL, .LSR, .ROL, .ROR] → i.mode = .mem m → exec i s = .next t →
      ∀ a : Word, a ≠ (effAddr m s).1 → t.byteAt a = s.byteAt a) ∧
    (∀ (i : Instr) (m : AddrMode) (s : State), s.Inv → s.params.writeHooks = [] → i.mode = .mem m →
      i.mnemonic ∈ [.STA, .STX, .STY] →
      ∃ t, exec i s = .next t ∧
        t.byteAt (effAddr m s).1 = (if i.mnemonic = .STA then s.a else if i.mnemonic = .STX then s.x else s.y))

/-- After PHA and PHP every byte of memory but that at 0x0100 + SP reads as before; after JSR every byte but those at 0x0100 + SP and 0x0100 + ((SP - 1) mod 256) reads as before, SP being its value before. Memory is in its canonical form. (R59, R216, R218, R221.) -/
def Obligations.MemoryFrameOfPushes : Prop :=
    (∀ (i : Instr) (s t : State), s.Inv → i = .pha ∨ i = .php → exec i s = .next t →
      ∀ a : Word, a ≠ BitVec.ofNat 16 (0x0100 + s.sp.toNat) → t.byteAt a = s.byteAt a) ∧
    (∀ (w : Word) (s t : State), s.Inv → exec (.jsr w) s = .next t →
      ∀ a : Word, a ≠ BitVec.ofNat 16 (0x0100 + s.sp.toNat) →
        a ≠ BitVec.ofNat 16 (0x0100 + (s.sp.toNat + 255) % 256) → t.byteAt a = s.byteAt a)

/-- Whatever next state a step answers: nmi_pending is as before; the parameters are as before; exec of an instruction sets halted only for BRK and never records a fault; the log of hook calls only grows, and stays as it was with no hooks. Parameters and log are the model's own fields (log entries 2 and 3). (R38, R39, R40, R43, R250, R253.) -/
def Obligations.ControlStateFrameOfEveryStep : Prop :=
    (∀ s t : State, step s = .next t →
      t.nmiPending = s.nmiPending ∧ t.params = s.params ∧ s.hookLog <:+ t.hookLog ∧
      (s.params.readHooks = [] → s.params.writeHooks = [] → t.hookLog = s.hookLog)) ∧
    (∀ (i : Instr) (s t : State), exec i s = .next t →
      t.fault = s.fault ∧ t.started = s.started ∧ (i.mnemonic ≠ .BRK → t.halted = s.halted))

/-- With no hooks and memory in its canonical form, PHP and then PLP answer next states, and after both the six flags and SP are as before and PC is two further on. (R219, R218, 95_test_vectors 1.4.) -/
def Obligations.PhpThenPlpRestoresFlagsAndSp : Prop :=
    ∀ s : State, s.Inv → s.params.readHooks = [] → s.params.writeHooks = [] →
    ∃ t u, exec .php s = .next t ∧ exec .plp t = .next u ∧ u.p = s.p ∧ u.sp = s.sp ∧ u.pc = s.pc + 2 ∧ u.a = s.a

/-- With no hooks and memory in its canonical form, for every PC and SP, JSR goes to its operand with SP lower by two mod 256, and an RTS from there returns to PC + 3 with SP as before the call; no flag and no other register changes. (R222, R221.) -/
def Obligations.RtsAfterJsrReturnsPastTheCall : Prop :=
    ∀ (a : Word) (s : State), s.Inv → s.params.readHooks = [] → s.params.writeHooks = [] →
    ∃ t u, exec (.jsr a) s = .next t ∧ t.pc = a ∧ t.sp = s.sp - 2 ∧ exec .rts t = .next u ∧
      u = { s with pc := s.pc + 3, mem := t.mem }

/-- With no hooks and memory in its canonical form, in a running state with the latch set, the service and then RTI give back PC, SP, all six flags (I included) and every other register; the latch is clear and stays clear. (R223, R247, R253, R251.) -/
def Obligations.RtiAfterTheNmiServiceResumes : Prop :=
    ∀ s : State, s.Inv → s.Running → s.nmiPending = true → s.params.readHooks = [] → s.params.writeHooks = [] →
    ∃ u, exec .rti (handleInterrupts s) = .next u ∧
      u = { s with mem := (handleInterrupts s).mem, nmiPending := false }

/-- triggerNmi sets the latch and nothing else, in every state; handleInterrupts in a running state with the latch clear changes nothing; with the latch set it pushes PC high, PC low and pack(P_B_PUSH_NMI), sets I, reads the vector low byte first from 0xFFFA and 0xFFFB, sets PC to it and clears the latch, whatever I is; in a terminal state it changes nothing. The decided value of P_B_PUSH_NMI is 0. (R246, R247, R248.) -/
def Obligations.NmiServiceTakesTheInterrupt : Prop :=
    (∀ s : State, triggerNmi s = { s with nmiPending := true }) ∧
    (∀ s : State, s.nmiPending = false ∨ ¬ s.Running → handleInterrupts s = s) ∧
    (∀ s : State, s.Running → s.nmiPending = true →
      let s1 := push (BitVec.ofNat 8 (s.pc.toNat / 256)) s
      let s2 := push (BitVec.ofNat 8 (s.pc.toNat % 256)) s1
      let s3 := push (statusByte s.p s.params.bPushNmi) s2
      let lo := busRead 0xFFFA { s3 with p := { s.p with i := true } }
      let hi := busRead 0xFFFB lo.2
      handleInterrupts s = { hi.2 with pc := BitVec.ofNat 16 (hi.1.toNat * 256 + lo.1.toNat), nmiPending := false }) ∧
    Params.decided.bPushNmi = false

/-- With no hooks and memory in its canonical form, in a running state with the latch set: after the service the bytes at 0x0100+SP, 0x0100+(SP-1 mod 256) and 0x0100+(SP-2 mod 256) are PC high, PC low and the packed status, every other byte is as before, SP is lower by 3 mod 256, PC is the word at 0xFFFA, I is 1, the other flags, A, X and Y are as before and the latch is clear. (R247, R252, R59.) -/
def Obligations.NmiServiceLeavesThreeStackBytes : Prop :=
    ∀ s : State, s.Inv → s.Running → s.nmiPending = true → s.params.readHooks = [] → s.params.writeHooks = [] →
    let t := handleInterrupts s
    let slot := fun k : Nat => (BitVec.ofNat 16 (0x0100 + (s.sp.toNat + k) % 256) : Word)
    (t.byteAt (slot 0)).toNat = s.pc.toNat / 256 ∧ (t.byteAt (slot 255)).toNat = s.pc.toNat % 256 ∧
    t.byteAt (slot 254) = statusByte s.p s.params.bPushNmi ∧
    (∀ a : Word, a ≠ slot 0 → a ≠ slot 255 → a ≠ slot 254 → t.byteAt a = s.byteAt a) ∧
    t = { s with
          sp := s.sp - 3
          pc := BitVec.ofNat 16 ((s.byteAt 0xFFFB).toNat * 256 + (s.byteAt 0xFFFA).toNat)
          p := { s.p with i := true }
          nmiPending := false
          mem := t.mem }

/-- reset() on an existing core sets A, X, Y, SP to 0, PC to 0, all six flags to 0, halted and nmi_pending to 0 and fault to none, and leaves memory unchanged; State.reset has the same values; no reset vector is read. That it leaves the parameters, the log of hook calls and the count of draws and clears started is the model's choice (log entries 3, 8 and 18). (R42, R266, R267, R268.) -/
def Obligations.ResetGivesTheZeroBaseline : Prop :=
    (∀ s : State, ∃ t, hostAct .reset s = .next t ∧
      t.a = 0 ∧ t.x = 0 ∧ t.y = 0 ∧ t.sp = 0 ∧ t.pc = 0 ∧
      t.p = { n := false, v := false, d := false, i := false, z := false, c := false } ∧
      t.halted = false ∧ t.nmiPending = false ∧ t.fault = none ∧ t.mem = s.mem ∧
      t.params = s.params ∧ t.hookLog = s.hookLog ∧ t.draws = s.draws ∧ t.started = false) ∧
    (let t := State.reset
     t.a = 0 ∧ t.x = 0 ∧ t.y = 0 ∧ t.sp = 0 ∧ t.pc = 0 ∧
     t.p = { n := false, v := false, d := false, i := false, z := false, c := false } ∧
     t.halted = false ∧ t.nmiPending = false ∧ t.fault = none)

/-- In a terminal state, any host action but reset and create that answers a next state leaves the halted flag and the fault record as they were: no step, service, trigger, load or decoded execution clears either. (R259, R260, R38, R40.) -/
def Obligations.HaltAndFaultEndOnlyWithResetOrANewRun : Prop :=
    ∀ (act : HostAction) (s t : State), ¬ s.Running → hostAct act s = .next t →
    act ≠ .reset → (∀ image params, act ≠ .create image params) →
    t.halted = s.halted ∧ t.fault = s.fault

/-- Before the first step a load of a register, the flags or a byte of memory writes exactly what it names; once a step has been taken it is refused; every step, also one that records a fault, and every executed decoded pair counts as taken, and a snapshot changes nothing. The started bit that says so is the model's own, and that an executed decoded pair counts as a step is the model's choice and not the rules' (log entry 8). (R45, R112, D21.) -/
def Obligations.LoadOnlyBeforeTheFirstStep : Prop :=
    (∀ (s : State) (q : LoadItem), s.started = true → hostAct (.load q) s = .refused .loadAfterStart) ∧
    (∀ s : State, s.started = false →
      (∀ v, hostAct (.load (.a v)) s = .next { s with a := v }) ∧ (∀ v, hostAct (.load (.x v)) s = .next { s with x := v }) ∧
      (∀ v, hostAct (.load (.y v)) s = .next { s with y := v }) ∧ (∀ v, hostAct (.load (.sp v)) s = .next { s with sp := v }) ∧
      (∀ w, hostAct (.load (.pc w)) s = .next { s with pc := w }) ∧
      (∀ f, hostAct (.load (.flags f)) s = .next { s with p := f }) ∧
      (∀ a v, hostAct (.load (.byte a v)) s = .next { s with mem := Memory.put s.mem a.toNat v })) ∧
    (∀ s t : State, hostAct .step s = .next t → t.started = true) ∧
    (∀ (y : Symbols) (mn : Mnemonic) (sm : SymMode) (s t : State),
      hostAct (.executeDecoded y mn sm) s = .next t → t.started = true) ∧
    (∀ s : State, hostAct .snapshot s = .next s)

/-- From every state whose memory lists strictly rising addresses below 65536 and no cell equal to what an unlisted address holds, whatever next state a step answers has such a memory too. (R41, R46, 20_memory section 1.) -/
def Obligations.EveryStepKeepsMemoryCanonical : Prop :=
    ∀ s t : State, s.Inv → step s = .next t → t.Inv

/-- From every state whose memory is in canonical form, whatever next state a host action answers has its memory in canonical form too: create with any image and any parameters, reset, load, step, execute decoded, triggerNmi, handleInterrupts and snapshot. (R112, R41, R45, R266, R247.) -/
def Obligations.EveryHostActionKeepsMemoryCanonical : Prop :=
    ∀ (act : HostAction) (s t : State), s.Inv → hostAct act s = .next t → t.Inv

/-- State.reset has its memory in canonical form, and so has every core that create makes, whatever image it is given. (R266, R41.) -/
def Obligations.ResetMemoryIsCanonical : Prop :=
    State.reset.Inv ∧ ∀ (image : List (Word × Byte)) (params : Params), (State.create image params).Inv

/-- For every pair: where its name has a value, R84 chooses the mode from the mnemonic and the value (zp, zpx or zpy when the address is below 256 and the mnemonic has that form), a pair whose cell of R76 is empty is unsupported whatever the value, else a value outside its range is out of range, else the pair is a branch to the value or the instruction of that mnemonic and mode whose operand bytes are the value, or the low or high byte of a 16-bit literal or a constant. In a running state, a pair that resolves to the instruction i executes as i, with no fetch, and PC is afterwards what i wrote for JMP, JSR, RTS and RTI and is unchanged otherwise, BRK included; a branch and an unsupported pair change nothing but the model's started bit (log entry 8); an out-of-range value is refused. The model's own choices: a name without a value is unresolved before the other two checks (log entry 11), a constant name too (log entry 12), values below zero are below 256 (log entry 13), a literal may be a label (log entry 14), the value of a branch's predicate goes nowhere (log entry 20). (R110, R84, R88, R82, R83, R243, R196, D26, D28.) -/
def Obligations.DecodedExecutionRunsTheInstructionWithoutMovingPc : Prop :=
    (∀ (y : Symbols) (mn : Mnemonic) (sm : SymMode),
      match valueOf y sm with
      | none => resolvePair y mn sm = .unresolved (nameOf sm)
      | some v =>
        match kindOf mn v sm with
        | none => resolvePair y mn sm = .unsupported
        | some k =>
          if hasCell mn k = false then resolvePair y mn sm = .unsupported
          else if inRangeOf v sm = false then resolvePair y mn sm = .outOfRange
          else if k = .rel then resolvePair y mn sm = .branch mn (BitVec.ofInt 16 v)
          else ∃ i : Instr, resolvePair y mn sm = .instr i ∧ i.mnemonic = mn ∧ i.mode.kind = k ∧
            i.mode.operandBytes =
              List.take (lengthOfKind k - 1) [BitVec.ofInt 8 (operandOf v sm), BitVec.ofInt 8 (operandOf v sm / 256)]) ∧
    (∀ (y : Symbols) (mn : Mnemonic) (sm : SymMode) (i : Instr) (s : State), s.Running → resolvePair y mn sm = .instr i →
      ∃ t, exec i { s with started := true } = .next t ∧
        executeDecoded y mn sm s =
          .next (if mn ∈ [.JMP, .JSR, .RTS, .RTI] then t else { t with pc := s.pc })) ∧
    (∀ (y : Symbols) (mn : Mnemonic) (sm : SymMode) (s : State), s.Running →
      (∃ a, resolvePair y mn sm = .branch mn a) ∨ resolvePair y mn sm = .unsupported →
      executeDecoded y mn sm s = .next { s with started := true }) ∧
    (∀ (y : Symbols) (mn : Mnemonic) (sm : SymMode) (s : State), s.Running → resolvePair y mn sm = .outOfRange →
      executeDecoded y mn sm s = .refused .valueOutOfRange)

/-- In a running state, executing a pair whose label the resolver has no value for sets fault to UnresolvedLabel(label) and changes nothing else but the model's started bit; in size calculation the same label makes the form not zero-page and never fails. The model's own choices: for a pair that is unsupported as well, the unresolved label comes first (log entry 11); a literal may be a label (log entry 14); the started bit (log entry 8). (R243, R87, R82.) -/
def Obligations.UnresolvedLabelRecordsTheFault : Prop :=
    ∀ (y : Symbols) (mn : Mnemonic) (l : String) (off : Option Int) (sm : SymMode) (s : State), s.Running →
    y.labels.lookup l = none →
    sm ∈ [.direct l off, .directIndexedX l off, .directIndexedY l off, .indirectIndexedX l, .indirectIndexedY l,
          .indirectAbsolute l, .immediate16Low (.label l), .immediate16High (.label l)] →
    executeDecoded y mn sm s = .next { s with fault := some (.unresolvedLabel l), started := true } ∧
    (y.consts.lookup l = none → sizeCalc y mn sm = symSize mn sm false)

/-- For every symbol table, mnemonic and symbolic mode that resolve to an instruction, the size for the same resolved value equals the length of that instruction's encoding; for a branch it is 2, the length of every branch. (R93, R85, R84.) -/
def Obligations.SizeFunctionAgreesWithTheDecoder : Prop :=
    (∀ (y : Symbols) (mn : Mnemonic) (sm : SymMode) (i : Instr), resolvePair y mn sm = .instr i →
      i.mnemonic = mn ∧ symSize mn sm (symEligible y.labels sm) = (encode i).length) ∧
    (∀ (y : Symbols) (mn : Mnemonic) (sm : SymMode) (a : Word), resolvePair y mn sm = .branch mn a →
      symSize mn sm (symEligible y.labels sm) = 2)
end

