-- ==== Sys2Proof/Laws/Decode.lean ====
section
/-! SUPPORT. Every row of the opcode table gives instructions with that row's opcode byte and the operand bytes of its
format (30_encoding R72, R76). -/

namespace Sys2Proof

/-- A row is sound when each instruction it gives has its opcode byte and its format's operand bytes. -/
def RowSound (q : Byte × Form) : Prop :=
  match q.2 with
  | .f1 i => i.opcode = q.1 ∧ i.mode.operandBytes = []
  | .f2 mk => ∀ b, (mk b).opcode = q.1 ∧ (mk b).mode.operandBytes = [b]
  | .f3 mk => ∀ w, (mk w).opcode = q.1 ∧ (mk w).mode.operandBytes = [loByte w, hiByte w]

theorem opcodeRow0_sound : ∀ q ∈ opcodeRow0, RowSound q := by
  unfold opcodeRow0
  repeat' first | exact List.forall_mem_nil _ | refine List.forall_mem_cons.2 ⟨?_, ?_⟩
  all_goals first | exact ⟨rfl, rfl⟩ | exact fun _ => ⟨rfl, rfl⟩

theorem opcodeRow1_sound : ∀ q ∈ opcodeRow1, RowSound q := by
  unfold opcodeRow1
  repeat' first | exact List.forall_mem_nil _ | refine List.forall_mem_cons.2 ⟨?_, ?_⟩
  all_goals first | exact ⟨rfl, rfl⟩ | exact fun _ => ⟨rfl, rfl⟩

theorem opcodeRow2_sound : ∀ q ∈ opcodeRow2, RowSound q := by
  unfold opcodeRow2
  repeat' first | exact List.forall_mem_nil _ | refine List.forall_mem_cons.2 ⟨?_, ?_⟩
  all_goals first | exact ⟨rfl, rfl⟩ | exact fun _ => ⟨rfl, rfl⟩

theorem opcodeRow3_sound : ∀ q ∈ opcodeRow3, RowSound q := by
  unfold opcodeRow3
  repeat' first | exact List.forall_mem_nil _ | refine List.forall_mem_cons.2 ⟨?_, ?_⟩
  all_goals first | exact ⟨rfl, rfl⟩ | exact fun _ => ⟨rfl, rfl⟩

theorem opcodeRow4_sound : ∀ q ∈ opcodeRow4, RowSound q := by
  unfold opcodeRow4
  repeat' first | exact List.forall_mem_nil _ | refine List.forall_mem_cons.2 ⟨?_, ?_⟩
  all_goals first | exact ⟨rfl, rfl⟩ | exact fun _ => ⟨rfl, rfl⟩

theorem opcodeRow5_sound : ∀ q ∈ opcodeRow5, RowSound q := by
  unfold opcodeRow5
  repeat' first | exact List.forall_mem_nil _ | refine List.forall_mem_cons.2 ⟨?_, ?_⟩
  all_goals first | exact ⟨rfl, rfl⟩ | exact fun _ => ⟨rfl, rfl⟩

theorem opcodeRow6_sound : ∀ q ∈ opcodeRow6, RowSound q := by
  unfold opcodeRow6
  repeat' first | exact List.forall_mem_nil _ | refine List.forall_mem_cons.2 ⟨?_, ?_⟩
  all_goals first | exact ⟨rfl, rfl⟩ | exact fun _ => ⟨rfl, rfl⟩

theorem opcodeRow7_sound : ∀ q ∈ opcodeRow7, RowSound q := by
  unfold opcodeRow7
  repeat' first | exact List.forall_mem_nil _ | refine List.forall_mem_cons.2 ⟨?_, ?_⟩
  all_goals first | exact ⟨rfl, rfl⟩ | exact fun _ => ⟨rfl, rfl⟩

theorem opcodeRow8_sound : ∀ q ∈ opcodeRow8, RowSound q := by
  unfold opcodeRow8
  repeat' first | exact List.forall_mem_nil _ | refine List.forall_mem_cons.2 ⟨?_, ?_⟩
  all_goals first | exact ⟨rfl, rfl⟩ | exact fun _ => ⟨rfl, rfl⟩

theorem opcodeRow9_sound : ∀ q ∈ opcodeRow9, RowSound q := by
  unfold opcodeRow9
  repeat' first | exact List.forall_mem_nil _ | refine List.forall_mem_cons.2 ⟨?_, ?_⟩
  all_goals first | exact ⟨rfl, rfl⟩ | exact fun _ => ⟨rfl, rfl⟩

theorem opcodeRowA_sound : ∀ q ∈ opcodeRowA, RowSound q := by
  unfold opcodeRowA
  repeat' first | exact List.forall_mem_nil _ | refine List.forall_mem_cons.2 ⟨?_, ?_⟩
  all_goals first | exact ⟨rfl, rfl⟩ | exact fun _ => ⟨rfl, rfl⟩

theorem opcodeRowB_sound : ∀ q ∈ opcodeRowB, RowSound q := by
  unfold opcodeRowB
  repeat' first | exact List.forall_mem_nil _ | refine List.forall_mem_cons.2 ⟨?_, ?_⟩
  all_goals first | exact ⟨rfl, rfl⟩ | exact fun _ => ⟨rfl, rfl⟩

theorem opcodeRowC_sound : ∀ q ∈ opcodeRowC, RowSound q := by
  unfold opcodeRowC
  repeat' first | exact List.forall_mem_nil _ | refine List.forall_mem_cons.2 ⟨?_, ?_⟩
  all_goals first | exact ⟨rfl, rfl⟩ | exact fun _ => ⟨rfl, rfl⟩

theorem opcodeRowD_sound : ∀ q ∈ opcodeRowD, RowSound q := by
  unfold opcodeRowD
  repeat' first | exact List.forall_mem_nil _ | refine List.forall_mem_cons.2 ⟨?_, ?_⟩
  all_goals first | exact ⟨rfl, rfl⟩ | exact fun _ => ⟨rfl, rfl⟩

theorem opcodeRowE_sound : ∀ q ∈ opcodeRowE, RowSound q := by
  unfold opcodeRowE
  repeat' first | exact List.forall_mem_nil _ | refine List.forall_mem_cons.2 ⟨?_, ?_⟩
  all_goals first | exact ⟨rfl, rfl⟩ | exact fun _ => ⟨rfl, rfl⟩

theorem opcodeRowF_sound : ∀ q ∈ opcodeRowF, RowSound q := by
  unfold opcodeRowF
  repeat' first | exact List.forall_mem_nil _ | refine List.forall_mem_cons.2 ⟨?_, ?_⟩
  all_goals first | exact ⟨rfl, rfl⟩ | exact fun _ => ⟨rfl, rfl⟩

theorem opcodeTable_sound : ∀ q ∈ opcodeTable, RowSound q := by
  simp only [opcodeTable, List.forall_mem_append]
  exact ⟨⟨⟨⟨⟨⟨⟨⟨⟨⟨⟨⟨⟨⟨⟨opcodeRow0_sound, opcodeRow1_sound⟩, opcodeRow2_sound⟩, opcodeRow3_sound⟩, opcodeRow4_sound⟩,
    opcodeRow5_sound⟩, opcodeRow6_sound⟩, opcodeRow7_sound⟩, opcodeRow8_sound⟩, opcodeRow9_sound⟩, opcodeRowA_sound⟩,
    opcodeRowB_sound⟩, opcodeRowC_sound⟩, opcodeRowD_sound⟩, opcodeRowE_sound⟩, opcodeRowF_sound⟩

/-- A byte that selects a form is the opcode byte of each instruction the form gives. -/
theorem formOf_sound {op : Byte} {f : Form} (h : formOf op = some f) : RowSound (op, f) := by
  refine opcodeTable_sound _ ?_
  unfold formOf at h
  generalize opcodeTable = rows at h
  induction rows with
  | nil => cases h
  | cons q rest ih =>
    obtain ⟨k, g⟩ := q
    rw [List.lookup] at h
    split at h
    · next hk => cases h; cases eq_of_beq hk; exact List.mem_cons_self
    · exact List.mem_cons_of_mem _ (ih h)

/-- A mode is fixed by its kind and its operand bytes. -/
theorem Mode.eq_of_kind_of_bytes {p q : Mode} (hk : p.kind = q.kind) (hb : p.operandBytes = q.operandBytes) : p = q := by
  have word : ∀ a b : Word, loByte a = loByte b → hiByte a = hiByte b → a = b := by
    intro a b h1 h2
    apply BitVec.eq_of_getLsbD_eq
    intro j hj
    have e1 := congrArg (fun v : Byte => v.getLsbD j) h1
    have e2 := congrArg (fun v : Byte => v.getLsbD (j - 8)) h2
    simp only [loByte, hiByte, BitVec.getLsbD_extractLsb'] at e1 e2
    by_cases h : j < 8
    · simpa [h] using e1
    · simpa [show j - 8 < 8 by omega, show 8 + (j - 8) = j by omega] using e2
  cases p with
  | mem a =>
    cases q with
    | mem b =>
      cases a <;> cases b <;> first
        | (cases hk; done)
        | (simp only [Mode.operandBytes, AddrMode.operandBytes, List.cons.injEq, and_true] at hb
           first
             | exact congrArg _ (congrArg _ hb)
             | exact congrArg _ (congrArg _ (word _ _ hb.1 hb.2)))
    | imp | acc | imm _ | ind _ | rel _ => cases a <;> cases hk
  | imp | acc =>
    cases q with
    | mem b => cases b <;> cases hk
    | imp | acc | imm _ | ind _ | rel _ => first | rfl | cases hk
  | imm v | rel v =>
    cases q with
    | mem b => cases b <;> cases hk
    | imp | acc | imm _ | ind _ | rel _ =>
      first
        | (cases hk; done)
        | (simp only [Mode.operandBytes, List.cons.injEq, and_true] at hb; exact congrArg _ hb)
  | ind v =>
    cases q with
    | mem b => cases b <;> cases hk
    | imp | acc | imm _ | ind _ | rel _ =>
      first
        | (cases hk; done)
        | (simp only [Mode.operandBytes, List.cons.injEq, and_true] at hb; exact congrArg _ (word _ _ hb.1 hb.2))

/-- The instruction found for a mnemonic and a mode has that mnemonic and that mode (30_encoding R84). -/
theorem instrOf?_sound {mn : Mnemonic} {m : Mode} {i : Instr} (h : instrOf? mn m = some i) :
    i.mnemonic = mn ∧ i.mode = m := by
  unfold instrOf? at h
  obtain ⟨row, hf, rfl⟩ := Option.map_eq_some_iff.1 h
  have hd : (row.2.withOperand m).mnemonic = mn ∧ (row.2.withOperand m).mode.kind = m.kind := by
    have := List.find?_some hf
    exact of_decide_eq_true this
  refine ⟨hd.1, Mode.eq_of_kind_of_bytes hd.2 ?_⟩
  have hs := opcodeTable_sound _ (List.mem_of_find?_eq_some hf)
  have hk := hd.2
  obtain ⟨op, f⟩ := row
  cases f with
  | f1 j =>
    have hb : j.mode.operandBytes = [] := hs.2
    have hk : j.mode.kind = m.kind := hk
    show j.mode.operandBytes = m.operandBytes
    generalize j.mode = q at hb hk
    rcases q with _ | _ | _ | q | _ | _ <;> (try cases q) <;> cases hb <;> rcases m with _ | _ | _ | m | _ | _ <;>
      (try cases m) <;> first | rfl | cases hk
  | f2 mk =>
    have hb : (mk m.op8).mode.operandBytes = [m.op8] := (hs m.op8).2
    have hk : (mk m.op8).mode.kind = m.kind := hk
    show (mk m.op8).mode.operandBytes = m.operandBytes
    have hl : (mk m.op8).mode.operandBytes.length = 1 := congrArg List.length hb
    rw [hb]
    clear hb hs
    generalize (mk m.op8).mode = q at hl hk
    rcases q with _ | _ | _ | q | _ | _ <;> (try cases q) <;> cases hl <;> rcases m with _ | _ | _ | m | _ | _ <;>
      (try cases m) <;> first | rfl | cases hk
  | f3 mk =>
    have hb : (mk m.op16).mode.operandBytes = [loByte m.op16, hiByte m.op16] := (hs m.op16).2
    have hk : (mk m.op16).mode.kind = m.kind := hk
    show (mk m.op16).mode.operandBytes = m.operandBytes
    have hl : (mk m.op16).mode.operandBytes.length = 2 := congrArg List.length hb
    rw [hb]
    clear hb hs
    generalize (mk m.op16).mode = q at hl hk
    rcases q with _ | _ | _ | q | _ | _ <;> (try cases q) <;> cases hl <;> rcases m with _ | _ | _ | m | _ | _ <;>
      (try cases m) <;> first | rfl | cases hk

/-- A row is uniform when the mnemonic and the kind of the instruction it gives do not depend on the operand. -/
def RowUniform (q : Byte × Form) : Prop :=
  ∀ m, (q.2.withOperand m).mnemonic = (q.2.withOperand .imp).mnemonic ∧
    (q.2.withOperand m).mode.kind = (q.2.withOperand .imp).mode.kind

theorem opcodeTable_uniform : ∀ q ∈ opcodeTable, RowUniform q := by
  simp only [opcodeTable, List.forall_mem_append]
  unfold opcodeRow0 opcodeRow1 opcodeRow2 opcodeRow3 opcodeRow4 opcodeRow5 opcodeRow6 opcodeRow7 opcodeRow8 opcodeRow9
    opcodeRowA opcodeRowB opcodeRowC opcodeRowD opcodeRowE opcodeRowF
  refine ⟨⟨⟨⟨⟨⟨⟨⟨⟨⟨⟨⟨⟨⟨⟨?_, ?_⟩, ?_⟩, ?_⟩, ?_⟩, ?_⟩, ?_⟩, ?_⟩, ?_⟩, ?_⟩, ?_⟩, ?_⟩, ?_⟩, ?_⟩, ?_⟩, ?_⟩
  all_goals
    repeat' first | exact List.forall_mem_nil _ | refine List.forall_mem_cons.2 ⟨fun _ => ⟨rfl, rfl⟩, ?_⟩

/-- Every filled cell of the opcode map has its row. -/
theorem opcodeTable_complete (mn : Mnemonic) :
    (mn.kinds.all fun k => opcodeTable.any fun row =>
      decide ((row.2.withOperand .imp).mnemonic = mn ∧ (row.2.withOperand .imp).mode.kind = k)) = true := by
  cases mn <;> decide +kernel

/-- An instruction is found for a mnemonic and a mode exactly where the cell of the opcode map is filled
(30_encoding R76, R84, R88). -/
theorem instrOf?_isSome {mn : Mnemonic} {m : Mode} : (instrOf? mn m).isSome = supported mn m.kind := by
  cases hs : supported mn m.kind with
  | true =>
    obtain ⟨row, hr, hd⟩ := List.any_eq_true.1 (List.all_eq_true.1 (opcodeTable_complete mn) _ (List.contains_iff_mem.1 hs))
    obtain ⟨h1, h2⟩ := of_decide_eq_true hd
    obtain ⟨u1, u2⟩ := opcodeTable_uniform row hr m
    unfold instrOf?
    rw [Option.isSome_map, List.find?_isSome]
    exact ⟨row, hr, decide_eq_true ⟨u1.trans h1, u2.trans h2⟩⟩
  | false =>
    cases hi : instrOf? mn m with
    | none => rfl
    | some i =>
      obtain ⟨rfl, rfl⟩ := instrOf?_sound hi
      cases i <;> cases hs

end Sys2Proof
end

