-- ==== Sys2Proof/Laws/Memory.lean ====
section
/-! SUPPORT. Memory as a canonical list of cells: reading after writing, and that every write keeps the canonical form. -/

namespace Sys2Proof.Machine

theorem Memory.wfFrom_cons {k : Nat} {v : Byte} {rest : Memory} {least : Nat} :
    Memory.wfFrom ((k, v) :: rest) least = true ↔
      least ≤ k ∧ k < 65536 ∧ v ≠ unlistedByte ∧ Memory.wfFrom rest (k + 1) = true := by
  simp [Memory.wfFrom, and_assoc]

theorem Memory.wfFrom_weaken {m : Memory} {least least' : Nat} (h : Memory.wfFrom m least = true) (hl : least' ≤ least) :
    Memory.wfFrom m least' = true := by
  cases m with
  | nil => rfl
  | cons q rest =>
    obtain ⟨h1, h2⟩ := Memory.wfFrom_cons.1 h
    exact Memory.wfFrom_cons.2 ⟨by omega, h2⟩

/-- An address below every listed one holds the unlisted byte. -/
theorem Memory.get_below {m : Memory} {least a : Nat} (h : Memory.wfFrom m least = true) (ha : a < least) :
    Memory.get m a = unlistedByte := by
  induction m generalizing least with
  | nil => rfl
  | cons q rest ih =>
    obtain ⟨h1, -, -, h4⟩ := Memory.wfFrom_cons.1 h
    rw [Memory.get, if_neg (by omega)]
    exact ih h4 (by omega)

theorem Memory.put_wfFrom {m : Memory} {least a : Nat} (v : Byte) (h : Memory.wfFrom m least = true)
    (hl : least ≤ a) (ha : a < 65536) : Memory.wfFrom (Memory.put m a v) least = true := by
  induction m generalizing least with
  | nil =>
    unfold Memory.put
    split
    · rfl
    · exact Memory.wfFrom_cons.2 ⟨hl, ha, ‹_›, rfl⟩
  | cons q rest ih =>
    obtain ⟨k, w⟩ := q
    obtain ⟨h1, h2, h3, h4⟩ := Memory.wfFrom_cons.1 h
    unfold Memory.put
    split
    · split
      · exact h
      · exact Memory.wfFrom_cons.2 ⟨hl, ha, ‹_›, Memory.wfFrom_cons.2 ⟨by omega, h2, h3, h4⟩⟩
    · split
      · split
        · exact Memory.wfFrom_weaken h4 (by omega)
        · exact Memory.wfFrom_cons.2 ⟨hl, ha, ‹_›, Memory.wfFrom_weaken h4 (by omega)⟩
      · exact Memory.wfFrom_cons.2 ⟨h1, h2, h3, ih h4 (by omega)⟩

/-- Every write keeps the canonical form. -/
theorem Memory.put_wf {m : Memory} (a : Word) (v : Byte) (h : Memory.wf m = true) :
    Memory.wf (Memory.put m a.toNat v) = true :=
  Memory.put_wfFrom v h (Nat.zero_le _) a.isLt

theorem Memory.get_putFrom {m : Memory} {least : Nat} (h : Memory.wfFrom m least = true) (a b : Nat) (v : Byte) :
    Memory.get (Memory.put m a v) b = if b = a then v else Memory.get m b := by
  induction m generalizing least with
  | nil =>
    unfold Memory.put
    split
    · next hv => by_cases hb : b = a <;> simp [Memory.get, hb, hv]
    · by_cases hb : b = a
      · simp [Memory.get, hb]
      · simp [Memory.get, hb, Ne.symm hb]
  | cons q rest ih =>
    obtain ⟨k, w⟩ := q
    obtain ⟨h1, h2, h3, h4⟩ := Memory.wfFrom_cons.1 h
    unfold Memory.put
    split
    · next hak =>
      split
      · next hv =>
        by_cases hb : b = a
        · have hr := Memory.get_below h4 (a := a) (by omega)
          simp [Memory.get, hb, hv, hr, show k ≠ a by omega]
        · simp [hb]
      · by_cases hb : b = a
        · simp [Memory.get, hb]
        · simp [Memory.get, hb, Ne.symm hb]
    · split
      · next hak =>
        subst hak
        split
        · next hv =>
          by_cases hb : b = a
          · have hr := Memory.get_below h4 (a := a) (by omega)
            simp [hb, hv, hr]
          · simp [Memory.get, hb, Ne.symm hb]
        · by_cases hb : b = a
          · simp [Memory.get, hb]
          · simp [Memory.get, hb, Ne.symm hb]
      · by_cases hk : k = b
        · subst hk
          simp [Memory.get, show k ≠ a by omega]
        · simp [Memory.get, hk, ih h4]

/-- A read after a write gives the byte written at its address, and elsewhere what was there. -/
theorem Memory.get_put {m : Memory} (h : Memory.wf m = true) (a b : Word) (v : Byte) :
    Memory.get (Memory.put m a.toNat v) b.toNat = if b = a then v else Memory.get m b.toNat := by
  rw [Memory.get_putFrom h]
  simp only [BitVec.toNat_inj]

end Sys2Proof.Machine
end

