-- ==== Sys2Proof/Laws/State.lean ====
section
/-! SUPPORT. One lemma per field per setter of State, so that no proof unfolds a record update. -/

namespace Sys2Proof.Machine

@[simp] theorem State.setA_a (s : State) (v : Byte) : (s.setA v).a = v := rfl
@[simp] theorem State.setA_x (s : State) (v : Byte) : (s.setA v).x = s.x := rfl
@[simp] theorem State.setA_y (s : State) (v : Byte) : (s.setA v).y = s.y := rfl
@[simp] theorem State.setA_sp (s : State) (v : Byte) : (s.setA v).sp = s.sp := rfl
@[simp] theorem State.setA_pc (s : State) (v : Byte) : (s.setA v).pc = s.pc := rfl
@[simp] theorem State.setA_p (s : State) (v : Byte) : (s.setA v).p = s.p := rfl
@[simp] theorem State.setA_halted (s : State) (v : Byte) : (s.setA v).halted = s.halted := rfl
@[simp] theorem State.setA_nmiPending (s : State) (v : Byte) : (s.setA v).nmiPending = s.nmiPending := rfl
@[simp] theorem State.setA_fault (s : State) (v : Byte) : (s.setA v).fault = s.fault := rfl
@[simp] theorem State.setA_mem (s : State) (v : Byte) : (s.setA v).mem = s.mem := rfl
@[simp] theorem State.setA_params (s : State) (v : Byte) : (s.setA v).params = s.params := rfl
@[simp] theorem State.setA_hookLog (s : State) (v : Byte) : (s.setA v).hookLog = s.hookLog := rfl
@[simp] theorem State.setA_draws (s : State) (v : Byte) : (s.setA v).draws = s.draws := rfl
@[simp] theorem State.setA_started (s : State) (v : Byte) : (s.setA v).started = s.started := rfl

@[simp] theorem State.setX_a (s : State) (v : Byte) : (s.setX v).a = s.a := rfl
@[simp] theorem State.setX_x (s : State) (v : Byte) : (s.setX v).x = v := rfl
@[simp] theorem State.setX_y (s : State) (v : Byte) : (s.setX v).y = s.y := rfl
@[simp] theorem State.setX_sp (s : State) (v : Byte) : (s.setX v).sp = s.sp := rfl
@[simp] theorem State.setX_pc (s : State) (v : Byte) : (s.setX v).pc = s.pc := rfl
@[simp] theorem State.setX_p (s : State) (v : Byte) : (s.setX v).p = s.p := rfl
@[simp] theorem State.setX_halted (s : State) (v : Byte) : (s.setX v).halted = s.halted := rfl
@[simp] theorem State.setX_nmiPending (s : State) (v : Byte) : (s.setX v).nmiPending = s.nmiPending := rfl
@[simp] theorem State.setX_fault (s : State) (v : Byte) : (s.setX v).fault = s.fault := rfl
@[simp] theorem State.setX_mem (s : State) (v : Byte) : (s.setX v).mem = s.mem := rfl
@[simp] theorem State.setX_params (s : State) (v : Byte) : (s.setX v).params = s.params := rfl
@[simp] theorem State.setX_hookLog (s : State) (v : Byte) : (s.setX v).hookLog = s.hookLog := rfl
@[simp] theorem State.setX_draws (s : State) (v : Byte) : (s.setX v).draws = s.draws := rfl
@[simp] theorem State.setX_started (s : State) (v : Byte) : (s.setX v).started = s.started := rfl

@[simp] theorem State.setY_a (s : State) (v : Byte) : (s.setY v).a = s.a := rfl
@[simp] theorem State.setY_x (s : State) (v : Byte) : (s.setY v).x = s.x := rfl
@[simp] theorem State.setY_y (s : State) (v : Byte) : (s.setY v).y = v := rfl
@[simp] theorem State.setY_sp (s : State) (v : Byte) : (s.setY v).sp = s.sp := rfl
@[simp] theorem State.setY_pc (s : State) (v : Byte) : (s.setY v).pc = s.pc := rfl
@[simp] theorem State.setY_p (s : State) (v : Byte) : (s.setY v).p = s.p := rfl
@[simp] theorem State.setY_halted (s : State) (v : Byte) : (s.setY v).halted = s.halted := rfl
@[simp] theorem State.setY_nmiPending (s : State) (v : Byte) : (s.setY v).nmiPending = s.nmiPending := rfl
@[simp] theorem State.setY_fault (s : State) (v : Byte) : (s.setY v).fault = s.fault := rfl
@[simp] theorem State.setY_mem (s : State) (v : Byte) : (s.setY v).mem = s.mem := rfl
@[simp] theorem State.setY_params (s : State) (v : Byte) : (s.setY v).params = s.params := rfl
@[simp] theorem State.setY_hookLog (s : State) (v : Byte) : (s.setY v).hookLog = s.hookLog := rfl
@[simp] theorem State.setY_draws (s : State) (v : Byte) : (s.setY v).draws = s.draws := rfl
@[simp] theorem State.setY_started (s : State) (v : Byte) : (s.setY v).started = s.started := rfl

@[simp] theorem State.setSP_a (s : State) (v : Byte) : (s.setSP v).a = s.a := rfl
@[simp] theorem State.setSP_x (s : State) (v : Byte) : (s.setSP v).x = s.x := rfl
@[simp] theorem State.setSP_y (s : State) (v : Byte) : (s.setSP v).y = s.y := rfl
@[simp] theorem State.setSP_sp (s : State) (v : Byte) : (s.setSP v).sp = v := rfl
@[simp] theorem State.setSP_pc (s : State) (v : Byte) : (s.setSP v).pc = s.pc := rfl
@[simp] theorem State.setSP_p (s : State) (v : Byte) : (s.setSP v).p = s.p := rfl
@[simp] theorem State.setSP_halted (s : State) (v : Byte) : (s.setSP v).halted = s.halted := rfl
@[simp] theorem State.setSP_nmiPending (s : State) (v : Byte) : (s.setSP v).nmiPending = s.nmiPending := rfl
@[simp] theorem State.setSP_fault (s : State) (v : Byte) : (s.setSP v).fault = s.fault := rfl
@[simp] theorem State.setSP_mem (s : State) (v : Byte) : (s.setSP v).mem = s.mem := rfl
@[simp] theorem State.setSP_params (s : State) (v : Byte) : (s.setSP v).params = s.params := rfl
@[simp] theorem State.setSP_hookLog (s : State) (v : Byte) : (s.setSP v).hookLog = s.hookLog := rfl
@[simp] theorem State.setSP_draws (s : State) (v : Byte) : (s.setSP v).draws = s.draws := rfl
@[simp] theorem State.setSP_started (s : State) (v : Byte) : (s.setSP v).started = s.started := rfl

@[simp] theorem State.setPC_a (s : State) (v : Word) : (s.setPC v).a = s.a := rfl
@[simp] theorem State.setPC_x (s : State) (v : Word) : (s.setPC v).x = s.x := rfl
@[simp] theorem State.setPC_y (s : State) (v : Word) : (s.setPC v).y = s.y := rfl
@[simp] theorem State.setPC_sp (s : State) (v : Word) : (s.setPC v).sp = s.sp := rfl
@[simp] theorem State.setPC_pc (s : State) (v : Word) : (s.setPC v).pc = v := rfl
@[simp] theorem State.setPC_p (s : State) (v : Word) : (s.setPC v).p = s.p := rfl
@[simp] theorem State.setPC_halted (s : State) (v : Word) : (s.setPC v).halted = s.halted := rfl
@[simp] theorem State.setPC_nmiPending (s : State) (v : Word) : (s.setPC v).nmiPending = s.nmiPending := rfl
@[simp] theorem State.setPC_fault (s : State) (v : Word) : (s.setPC v).fault = s.fault := rfl
@[simp] theorem State.setPC_mem (s : State) (v : Word) : (s.setPC v).mem = s.mem := rfl
@[simp] theorem State.setPC_params (s : State) (v : Word) : (s.setPC v).params = s.params := rfl
@[simp] theorem State.setPC_hookLog (s : State) (v : Word) : (s.setPC v).hookLog = s.hookLog := rfl
@[simp] theorem State.setPC_draws (s : State) (v : Word) : (s.setPC v).draws = s.draws := rfl
@[simp] theorem State.setPC_started (s : State) (v : Word) : (s.setPC v).started = s.started := rfl

@[simp] theorem State.setP_a (s : State) (v : Flags) : (s.setP v).a = s.a := rfl
@[simp] theorem State.setP_x (s : State) (v : Flags) : (s.setP v).x = s.x := rfl
@[simp] theorem State.setP_y (s : State) (v : Flags) : (s.setP v).y = s.y := rfl
@[simp] theorem State.setP_sp (s : State) (v : Flags) : (s.setP v).sp = s.sp := rfl
@[simp] theorem State.setP_pc (s : State) (v : Flags) : (s.setP v).pc = s.pc := rfl
@[simp] theorem State.setP_p (s : State) (v : Flags) : (s.setP v).p = v := rfl
@[simp] theorem State.setP_halted (s : State) (v : Flags) : (s.setP v).halted = s.halted := rfl
@[simp] theorem State.setP_nmiPending (s : State) (v : Flags) : (s.setP v).nmiPending = s.nmiPending := rfl
@[simp] theorem State.setP_fault (s : State) (v : Flags) : (s.setP v).fault = s.fault := rfl
@[simp] theorem State.setP_mem (s : State) (v : Flags) : (s.setP v).mem = s.mem := rfl
@[simp] theorem State.setP_params (s : State) (v : Flags) : (s.setP v).params = s.params := rfl
@[simp] theorem State.setP_hookLog (s : State) (v : Flags) : (s.setP v).hookLog = s.hookLog := rfl
@[simp] theorem State.setP_draws (s : State) (v : Flags) : (s.setP v).draws = s.draws := rfl
@[simp] theorem State.setP_started (s : State) (v : Flags) : (s.setP v).started = s.started := rfl

@[simp] theorem State.setHalted_a (s : State) (v : Bool) : (s.setHalted v).a = s.a := rfl
@[simp] theorem State.setHalted_x (s : State) (v : Bool) : (s.setHalted v).x = s.x := rfl
@[simp] theorem State.setHalted_y (s : State) (v : Bool) : (s.setHalted v).y = s.y := rfl
@[simp] theorem State.setHalted_sp (s : State) (v : Bool) : (s.setHalted v).sp = s.sp := rfl
@[simp] theorem State.setHalted_pc (s : State) (v : Bool) : (s.setHalted v).pc = s.pc := rfl
@[simp] theorem State.setHalted_p (s : State) (v : Bool) : (s.setHalted v).p = s.p := rfl
@[simp] theorem State.setHalted_halted (s : State) (v : Bool) : (s.setHalted v).halted = v := rfl
@[simp] theorem State.setHalted_nmiPending (s : State) (v : Bool) : (s.setHalted v).nmiPending = s.nmiPending := rfl
@[simp] theorem State.setHalted_fault (s : State) (v : Bool) : (s.setHalted v).fault = s.fault := rfl
@[simp] theorem State.setHalted_mem (s : State) (v : Bool) : (s.setHalted v).mem = s.mem := rfl
@[simp] theorem State.setHalted_params (s : State) (v : Bool) : (s.setHalted v).params = s.params := rfl
@[simp] theorem State.setHalted_hookLog (s : State) (v : Bool) : (s.setHalted v).hookLog = s.hookLog := rfl
@[simp] theorem State.setHalted_draws (s : State) (v : Bool) : (s.setHalted v).draws = s.draws := rfl
@[simp] theorem State.setHalted_started (s : State) (v : Bool) : (s.setHalted v).started = s.started := rfl

@[simp] theorem State.setNmiPending_a (s : State) (v : Bool) : (s.setNmiPending v).a = s.a := rfl
@[simp] theorem State.setNmiPending_x (s : State) (v : Bool) : (s.setNmiPending v).x = s.x := rfl
@[simp] theorem State.setNmiPending_y (s : State) (v : Bool) : (s.setNmiPending v).y = s.y := rfl
@[simp] theorem State.setNmiPending_sp (s : State) (v : Bool) : (s.setNmiPending v).sp = s.sp := rfl
@[simp] theorem State.setNmiPending_pc (s : State) (v : Bool) : (s.setNmiPending v).pc = s.pc := rfl
@[simp] theorem State.setNmiPending_p (s : State) (v : Bool) : (s.setNmiPending v).p = s.p := rfl
@[simp] theorem State.setNmiPending_halted (s : State) (v : Bool) : (s.setNmiPending v).halted = s.halted := rfl
@[simp] theorem State.setNmiPending_nmiPending (s : State) (v : Bool) : (s.setNmiPending v).nmiPending = v := rfl
@[simp] theorem State.setNmiPending_fault (s : State) (v : Bool) : (s.setNmiPending v).fault = s.fault := rfl
@[simp] theorem State.setNmiPending_mem (s : State) (v : Bool) : (s.setNmiPending v).mem = s.mem := rfl
@[simp] theorem State.setNmiPending_params (s : State) (v : Bool) : (s.setNmiPending v).params = s.params := rfl
@[simp] theorem State.setNmiPending_hookLog (s : State) (v : Bool) : (s.setNmiPending v).hookLog = s.hookLog := rfl
@[simp] theorem State.setNmiPending_draws (s : State) (v : Bool) : (s.setNmiPending v).draws = s.draws := rfl
@[simp] theorem State.setNmiPending_started (s : State) (v : Bool) : (s.setNmiPending v).started = s.started := rfl

@[simp] theorem State.setFault_a (s : State) (v : Option FaultKind) : (s.setFault v).a = s.a := rfl
@[simp] theorem State.setFault_x (s : State) (v : Option FaultKind) : (s.setFault v).x = s.x := rfl
@[simp] theorem State.setFault_y (s : State) (v : Option FaultKind) : (s.setFault v).y = s.y := rfl
@[simp] theorem State.setFault_sp (s : State) (v : Option FaultKind) : (s.setFault v).sp = s.sp := rfl
@[simp] theorem State.setFault_pc (s : State) (v : Option FaultKind) : (s.setFault v).pc = s.pc := rfl
@[simp] theorem State.setFault_p (s : State) (v : Option FaultKind) : (s.setFault v).p = s.p := rfl
@[simp] theorem State.setFault_halted (s : State) (v : Option FaultKind) : (s.setFault v).halted = s.halted := rfl
@[simp] theorem State.setFault_nmiPending (s : State) (v : Option FaultKind) : (s.setFault v).nmiPending = s.nmiPending := rfl
@[simp] theorem State.setFault_fault (s : State) (v : Option FaultKind) : (s.setFault v).fault = v := rfl
@[simp] theorem State.setFault_mem (s : State) (v : Option FaultKind) : (s.setFault v).mem = s.mem := rfl
@[simp] theorem State.setFault_params (s : State) (v : Option FaultKind) : (s.setFault v).params = s.params := rfl
@[simp] theorem State.setFault_hookLog (s : State) (v : Option FaultKind) : (s.setFault v).hookLog = s.hookLog := rfl
@[simp] theorem State.setFault_draws (s : State) (v : Option FaultKind) : (s.setFault v).draws = s.draws := rfl
@[simp] theorem State.setFault_started (s : State) (v : Option FaultKind) : (s.setFault v).started = s.started := rfl

@[simp] theorem State.setMem_a (s : State) (v : Memory) : (s.setMem v).a = s.a := rfl
@[simp] theorem State.setMem_x (s : State) (v : Memory) : (s.setMem v).x = s.x := rfl
@[simp] theorem State.setMem_y (s : State) (v : Memory) : (s.setMem v).y = s.y := rfl
@[simp] theorem State.setMem_sp (s : State) (v : Memory) : (s.setMem v).sp = s.sp := rfl
@[simp] theorem State.setMem_pc (s : State) (v : Memory) : (s.setMem v).pc = s.pc := rfl
@[simp] theorem State.setMem_p (s : State) (v : Memory) : (s.setMem v).p = s.p := rfl
@[simp] theorem State.setMem_halted (s : State) (v : Memory) : (s.setMem v).halted = s.halted := rfl
@[simp] theorem State.setMem_nmiPending (s : State) (v : Memory) : (s.setMem v).nmiPending = s.nmiPending := rfl
@[simp] theorem State.setMem_fault (s : State) (v : Memory) : (s.setMem v).fault = s.fault := rfl
@[simp] theorem State.setMem_mem (s : State) (v : Memory) : (s.setMem v).mem = v := rfl
@[simp] theorem State.setMem_params (s : State) (v : Memory) : (s.setMem v).params = s.params := rfl
@[simp] theorem State.setMem_hookLog (s : State) (v : Memory) : (s.setMem v).hookLog = s.hookLog := rfl
@[simp] theorem State.setMem_draws (s : State) (v : Memory) : (s.setMem v).draws = s.draws := rfl
@[simp] theorem State.setMem_started (s : State) (v : Memory) : (s.setMem v).started = s.started := rfl

@[simp] theorem State.setParams_a (s : State) (v : Params) : (s.setParams v).a = s.a := rfl
@[simp] theorem State.setParams_x (s : State) (v : Params) : (s.setParams v).x = s.x := rfl
@[simp] theorem State.setParams_y (s : State) (v : Params) : (s.setParams v).y = s.y := rfl
@[simp] theorem State.setParams_sp (s : State) (v : Params) : (s.setParams v).sp = s.sp := rfl
@[simp] theorem State.setParams_pc (s : State) (v : Params) : (s.setParams v).pc = s.pc := rfl
@[simp] theorem State.setParams_p (s : State) (v : Params) : (s.setParams v).p = s.p := rfl
@[simp] theorem State.setParams_halted (s : State) (v : Params) : (s.setParams v).halted = s.halted := rfl
@[simp] theorem State.setParams_nmiPending (s : State) (v : Params) : (s.setParams v).nmiPending = s.nmiPending := rfl
@[simp] theorem State.setParams_fault (s : State) (v : Params) : (s.setParams v).fault = s.fault := rfl
@[simp] theorem State.setParams_mem (s : State) (v : Params) : (s.setParams v).mem = s.mem := rfl
@[simp] theorem State.setParams_params (s : State) (v : Params) : (s.setParams v).params = v := rfl
@[simp] theorem State.setParams_hookLog (s : State) (v : Params) : (s.setParams v).hookLog = s.hookLog := rfl
@[simp] theorem State.setParams_draws (s : State) (v : Params) : (s.setParams v).draws = s.draws := rfl
@[simp] theorem State.setParams_started (s : State) (v : Params) : (s.setParams v).started = s.started := rfl

@[simp] theorem State.setHookLog_a (s : State) (v : List HookCall) : (s.setHookLog v).a = s.a := rfl
@[simp] theorem State.setHookLog_x (s : State) (v : List HookCall) : (s.setHookLog v).x = s.x := rfl
@[simp] theorem State.setHookLog_y (s : State) (v : List HookCall) : (s.setHookLog v).y = s.y := rfl
@[simp] theorem State.setHookLog_sp (s : State) (v : List HookCall) : (s.setHookLog v).sp = s.sp := rfl
@[simp] theorem State.setHookLog_pc (s : State) (v : List HookCall) : (s.setHookLog v).pc = s.pc := rfl
@[simp] theorem State.setHookLog_p (s : State) (v : List HookCall) : (s.setHookLog v).p = s.p := rfl
@[simp] theorem State.setHookLog_halted (s : State) (v : List HookCall) : (s.setHookLog v).halted = s.halted := rfl
@[simp] theorem State.setHookLog_nmiPending (s : State) (v : List HookCall) : (s.setHookLog v).nmiPending = s.nmiPending := rfl
@[simp] theorem State.setHookLog_fault (s : State) (v : List HookCall) : (s.setHookLog v).fault = s.fault := rfl
@[simp] theorem State.setHookLog_mem (s : State) (v : List HookCall) : (s.setHookLog v).mem = s.mem := rfl
@[simp] theorem State.setHookLog_params (s : State) (v : List HookCall) : (s.setHookLog v).params = s.params := rfl
@[simp] theorem State.setHookLog_hookLog (s : State) (v : List HookCall) : (s.setHookLog v).hookLog = v := rfl
@[simp] theorem State.setHookLog_draws (s : State) (v : List HookCall) : (s.setHookLog v).draws = s.draws := rfl
@[simp] theorem State.setHookLog_started (s : State) (v : List HookCall) : (s.setHookLog v).started = s.started := rfl

@[simp] theorem State.setDraws_a (s : State) (v : Nat) : (s.setDraws v).a = s.a := rfl
@[simp] theorem State.setDraws_x (s : State) (v : Nat) : (s.setDraws v).x = s.x := rfl
@[simp] theorem State.setDraws_y (s : State) (v : Nat) : (s.setDraws v).y = s.y := rfl
@[simp] theorem State.setDraws_sp (s : State) (v : Nat) : (s.setDraws v).sp = s.sp := rfl
@[simp] theorem State.setDraws_pc (s : State) (v : Nat) : (s.setDraws v).pc = s.pc := rfl
@[simp] theorem State.setDraws_p (s : State) (v : Nat) : (s.setDraws v).p = s.p := rfl
@[simp] theorem State.setDraws_halted (s : State) (v : Nat) : (s.setDraws v).halted = s.halted := rfl
@[simp] theorem State.setDraws_nmiPending (s : State) (v : Nat) : (s.setDraws v).nmiPending = s.nmiPending := rfl
@[simp] theorem State.setDraws_fault (s : State) (v : Nat) : (s.setDraws v).fault = s.fault := rfl
@[simp] theorem State.setDraws_mem (s : State) (v : Nat) : (s.setDraws v).mem = s.mem := rfl
@[simp] theorem State.setDraws_params (s : State) (v : Nat) : (s.setDraws v).params = s.params := rfl
@[simp] theorem State.setDraws_hookLog (s : State) (v : Nat) : (s.setDraws v).hookLog = s.hookLog := rfl
@[simp] theorem State.setDraws_draws (s : State) (v : Nat) : (s.setDraws v).draws = v := rfl
@[simp] theorem State.setDraws_started (s : State) (v : Nat) : (s.setDraws v).started = s.started := rfl

@[simp] theorem State.setStarted_a (s : State) (v : Bool) : (s.setStarted v).a = s.a := rfl
@[simp] theorem State.setStarted_x (s : State) (v : Bool) : (s.setStarted v).x = s.x := rfl
@[simp] theorem State.setStarted_y (s : State) (v : Bool) : (s.setStarted v).y = s.y := rfl
@[simp] theorem State.setStarted_sp (s : State) (v : Bool) : (s.setStarted v).sp = s.sp := rfl
@[simp] theorem State.setStarted_pc (s : State) (v : Bool) : (s.setStarted v).pc = s.pc := rfl
@[simp] theorem State.setStarted_p (s : State) (v : Bool) : (s.setStarted v).p = s.p := rfl
@[simp] theorem State.setStarted_halted (s : State) (v : Bool) : (s.setStarted v).halted = s.halted := rfl
@[simp] theorem State.setStarted_nmiPending (s : State) (v : Bool) : (s.setStarted v).nmiPending = s.nmiPending := rfl
@[simp] theorem State.setStarted_fault (s : State) (v : Bool) : (s.setStarted v).fault = s.fault := rfl
@[simp] theorem State.setStarted_mem (s : State) (v : Bool) : (s.setStarted v).mem = s.mem := rfl
@[simp] theorem State.setStarted_params (s : State) (v : Bool) : (s.setStarted v).params = s.params := rfl
@[simp] theorem State.setStarted_hookLog (s : State) (v : Bool) : (s.setStarted v).hookLog = s.hookLog := rfl
@[simp] theorem State.setStarted_draws (s : State) (v : Bool) : (s.setStarted v).draws = s.draws := rfl
@[simp] theorem State.setStarted_started (s : State) (v : Bool) : (s.setStarted v).started = v := rfl

end Sys2Proof.Machine
end

