-- ==== Sys2Proof/Laws/Ops.lean ====
section
/-! SUPPORT. What each shared operation of Machine/Ops.lean and Machine/Operands.lean can do, said once: a read changes
only the log of hook calls, a write only memory and that log. -/

namespace Sys2Proof.Machine

/-! ### Bytes and words -/

@[simp] theorem wordOf_hi_lo (w : Word) : wordOf (hiByte w) (loByte w) = w := by
  apply BitVec.eq_of_getLsbD_eq
  intro j hj
  simp only [wordOf, hiByte, loByte, BitVec.getLsbD_append, BitVec.getLsbD_extractLsb']
  by_cases h : j < 8
  · simp [h]
  · simp [h, show 8 + (j - 8) = j by omega, show j - 8 < 8 by omega]

@[simp] theorem loByte_wordOf (hi lo : Byte) : loByte (wordOf hi lo) = lo := by
  apply BitVec.eq_of_getLsbD_eq
  intro j hj
  simp only [wordOf, loByte, BitVec.getLsbD_append, BitVec.getLsbD_extractLsb', Nat.zero_add, hj, decide_true,
    Bool.true_and, if_true]

@[simp] theorem hiByte_wordOf (hi lo : Byte) : hiByte (wordOf hi lo) = hi := by
  apply BitVec.eq_of_getLsbD_eq
  intro j hj
  simp only [wordOf, hiByte, BitVec.getLsbD_append, BitVec.getLsbD_extractLsb', hj, decide_true, Bool.true_and,
    show ¬ 8 + j < 8 by omega, if_false, show 8 + j - 8 = j by omega]

theorem wordOf_toNat (hi lo : Byte) : (wordOf hi lo).toNat = hi.toNat * 256 + lo.toNat := by
  have := lo.isLt
  have := hi.isLt
  simp only [wordOf, BitVec.toNat_append, Nat.shiftLeft_eq]
  rw [← Nat.shiftLeft_eq, Nat.shiftLeft_add_eq_or_of_lt (by omega) _ |>.symm, Nat.shiftLeft_eq]

theorem loByte_toNat (w : Word) : (loByte w).toNat = w.toNat % 256 := by simp [loByte]

theorem hiByte_toNat (w : Word) : (hiByte w).toNat = w.toNat / 256 := by
  have := w.isLt
  simp only [hiByte, BitVec.extractLsb'_toNat, Nat.shiftRight_eq_div_pow]
  omega

theorem stackSlot_toNat (sp : Byte) : (stackSlot sp).toNat = 256 + sp.toNat := by
  have := sp.isLt
  simp only [stackSlot, BitVec.toNat_add, wordOf_toNat]
  simp
  omega

theorem stackSlot_eq (sp : Byte) : stackSlot sp = BitVec.ofNat 16 (0x0100 + sp.toNat) := by
  have := sp.isLt
  apply BitVec.eq_of_toNat_eq
  rw [stackSlot_toNat, BitVec.toNat_ofNat]
  omega

/-- Two stack slots are the same address only for the same SP. -/
theorem stackSlot_inj {p q : Byte} : stackSlot p = stackSlot q ↔ p = q := by
  constructor
  · intro h
    have := congrArg BitVec.toNat h
    rw [stackSlot_toNat, stackSlot_toNat] at this
    exact BitVec.eq_of_toNat_eq (by omega)
  · rintro rfl
    rfl

/-! ### The bus -/

theorem tryReadHooks_log (a : Word) (k : Nat) (hooks : List AddrRange) (log : List HookCall) :
    log <:+ (tryReadHooks a k hooks log).2 := by
  induction hooks generalizing k log with
  | nil => exact List.suffix_refl _
  | cons r rest ih =>
    unfold tryReadHooks
    split
    · split
      · exact List.suffix_cons _ _
      · exact (List.suffix_cons _ _).trans (ih _ _)
    · exact ih _ _

theorem tryWriteHooks_log (a : Word) (v : Byte) (k : Nat) (hooks : List AddrRange) (log : List HookCall) :
    log <:+ (tryWriteHooks a v k hooks log).2 := by
  induction hooks generalizing k log with
  | nil => exact List.suffix_refl _
  | cons r rest ih =>
    unfold tryWriteHooks
    split
    · split
      · exact List.suffix_cons _ _
      · exact (List.suffix_cons _ _).trans (ih _ _)
    · exact ih _ _

/-- Hooks that do not claim the address are passed over, and only their places count. -/
theorem tryReadHooks_skip (a : Word) (k : Nat) (before after : List AddrRange) (log : List HookCall)
    (h : ∀ q ∈ before, AddrRange.holds q a = false) :
    tryReadHooks a k (before ++ after) log = tryReadHooks a (k + before.length) after log := by
  induction before generalizing k with
  | nil => rfl
  | cons r rest ih =>
    rw [List.cons_append, tryReadHooks, if_neg (by simp [h r]), ih _ fun q hq => h q (List.mem_cons_of_mem _ hq)]
    congr 1
    simp
    omega

theorem tryReadHooks_none (a : Word) (k : Nat) (hooks : List AddrRange) (log : List HookCall)
    (h : ∀ q ∈ hooks, AddrRange.holds q a = false) : tryReadHooks a k hooks log = (none, log) := by
  simpa [tryReadHooks] using tryReadHooks_skip a k hooks [] log h

theorem tryWriteHooks_skip (a : Word) (v : Byte) (k : Nat) (before after : List AddrRange) (log : List HookCall)
    (h : ∀ q ∈ before, AddrRange.holds q a = false) :
    tryWriteHooks a v k (before ++ after) log = tryWriteHooks a v (k + before.length) after log := by
  induction before generalizing k with
  | nil => rfl
  | cons r rest ih =>
    rw [List.cons_append, tryWriteHooks, if_neg (by simp [h r]), ih _ fun q hq => h q (List.mem_cons_of_mem _ hq)]
    congr 1
    simp
    omega

theorem tryWriteHooks_none (a : Word) (v : Byte) (k : Nat) (hooks : List AddrRange) (log : List HookCall)
    (h : ∀ q ∈ hooks, AddrRange.holds q a = false) : tryWriteHooks a v k hooks log = (false, log) := by
  simpa [tryWriteHooks] using tryWriteHooks_skip a v k hooks [] log h

/-- A bus read changes nothing but the log of hook calls. -/
theorem busRead_state (a : Word) (s : State) : (busRead a s).2 = s.setHookLog (busRead a s).2.hookLog := rfl

theorem busRead_log (a : Word) (s : State) : s.hookLog <:+ (busRead a s).2.hookLog := tryReadHooks_log _ _ _ _

/-- With no read hooks a bus read is a read of memory. -/
theorem busRead_noHooks (a : Word) {s : State} (h : s.params.readHooks = []) : busRead a s = (State.byteAt s a, s) := by
  simp only [busRead, h, tryReadHooks]
  rfl

/-- A bus write changes nothing but memory and the log of hook calls. -/
theorem busWrite_state (a : Word) (v : Byte) (s : State) :
    busWrite a v s = (s.setHookLog (busWrite a v s).hookLog).setMem (busWrite a v s).mem := rfl

theorem busWrite_log (a : Word) (v : Byte) (s : State) : s.hookLog <:+ (busWrite a v s).hookLog :=
  tryWriteHooks_log _ _ _ _ _

/-- A bus write leaves memory alone, where a hook handles it, or puts the byte. -/
theorem busWrite_mem (a : Word) (v : Byte) (s : State) :
    (busWrite a v s).mem = s.mem ∨ (busWrite a v s).mem = Memory.put s.mem a.toNat v := by
  simp only [busWrite, State.setMem_mem]
  split
  · exact .inl rfl
  · exact .inr rfl

theorem busWrite_noHooks (a : Word) (v : Byte) {s : State} (h : s.params.writeHooks = []) :
    busWrite a v s = s.setMem (Memory.put s.mem a.toNat v) := by
  simp only [busWrite, h, tryWriteHooks]
  rfl

theorem busWrite_inv (a : Word) (v : Byte) {s : State} (h : s.Inv) : (busWrite a v s).Inv := by
  rcases busWrite_mem a v s with hm | hm
  · exact (congrArg (fun m => Memory.wf m = true) hm).mpr h
  · exact (congrArg (fun m => Memory.wf m = true) hm).mpr (Memory.put_wf a v h)

/-- A bus write changes no byte but the one at its address. -/
theorem busWrite_byteAt_other {a b : Word} (v : Byte) {s : State} (h : s.Inv) (hb : b ≠ a) :
    (busWrite a v s).byteAt b = s.byteAt b := by
  unfold State.byteAt
  rcases busWrite_mem a v s with hm | hm
  · rw [hm]
  · rw [hm, Memory.get_put h, if_neg hb]

@[simp] theorem State.setMem_put_byteAt {s : State} (h : s.Inv) (a b : Word) (v : Byte) :
    (s.setMem (Memory.put s.mem a.toNat v)).byteAt b = if b = a then v else s.byteAt b :=
  Memory.get_put h a b v

/-! ### Reads of words and operands -/

/-- Reading two bytes changes nothing but the log of hook calls. -/
theorem readPair_state (a b : Word) (s : State) : (readPair a b s).2 = s.setHookLog (readPair a b s).2.hookLog := rfl

theorem readPair_noHooks (a b : Word) {s : State} (h : s.params.readHooks = []) :
    readPair a b s = (wordOf (s.byteAt b) (s.byteAt a), s) := by
  simp only [readPair, busRead_noHooks _ h]

/-- Resolving an address changes nothing but the log of hook calls. -/
theorem effAddr_state (m : AddrMode) (s : State) : (effAddr m s).2 = s.setHookLog (effAddr m s).2.hookLog := by
  cases m <;> rfl

theorem effAddr_log (m : AddrMode) (s : State) : s.hookLog <:+ (effAddr m s).2.hookLog := by
  cases m
  case indx | indy => exact (busRead_log _ _).trans (busRead_log _ _)
  all_goals exact List.suffix_refl _

theorem effAddr_noHooks (m : AddrMode) {s : State} (h : s.params.readHooks = []) : (effAddr m s).2 = s := by
  cases m
  case indx a | indy a => exact congrArg Prod.snd (readPair_noHooks _ _ h)
  all_goals rfl

/-- Reading an operand changes nothing but the log of hook calls. -/
theorem readOperand_state (o : Operand) (s : State) : (readOperand o s).2 = s.setHookLog (readOperand o s).2.hookLog := by
  cases o with
  | imm v => rfl
  | mem m => cases m <;> rfl

theorem readOperand_noHooks (m : AddrMode) {s : State} (h : s.params.readHooks = []) :
    readOperand (.mem m) s = (s.byteAt (effAddr m s).1, s) := by
  have h2 := effAddr_noHooks m h
  simp only [readOperand, h2, busRead_noHooks _ h]

/-! ### The stack -/

/-- A push changes only memory, the log of hook calls and SP. -/
theorem push_state (v : Byte) (s : State) :
    push v s = ((s.setHookLog (push v s).hookLog).setMem (push v s).mem).setSP (s.sp - 1) := rfl

theorem push_inv (v : Byte) {s : State} (h : s.Inv) : (push v s).Inv := busWrite_inv _ v h

theorem push_noHooks (v : Byte) {s : State} (h : s.params.writeHooks = []) :
    push v s = (s.setMem (Memory.put s.mem (stackSlot s.sp).toNat v)).setSP (s.sp - 1) := by
  rw [push, busWrite_noHooks _ v h]

/-- A pull changes only the log of hook calls and SP. -/
theorem pull_state (s : State) : (pull s).2 = (s.setHookLog (pull s).2.hookLog).setSP (s.sp + 1) := rfl

theorem pull_noHooks {s : State} (h : s.params.readHooks = []) :
    pull s = (s.byteAt (stackSlot (s.sp + 1)), s.setSP (s.sp + 1)) := by
  rw [pull, busRead_noHooks (s := s.setSP (s.sp + 1)) _ h]
  rfl

/-- Pulling a word changes only the log of hook calls and SP. -/
theorem pullWord_state (s : State) :
    (pullWord s).2 = (s.setHookLog (pullWord s).2.hookLog).setSP (s.sp + 1 + 1) := rfl

/-- Pushing a word changes only memory, the log of hook calls and SP. -/
theorem pushWord_state (w : Word) (s : State) :
    pushWord w s = ((s.setHookLog (pushWord w s).hookLog).setMem (pushWord w s).mem).setSP (s.sp - 1 - 1) := rfl

/-! ### Terminal states -/

theorem terminal_eq_none_iff {s : State} : terminal s = none ↔ s.Running := by
  unfold terminal State.Running
  cases s.fault <;> cases s.halted <;> simp

theorem terminal_of_running {s : State} (h : s.Running) : terminal s = none := terminal_eq_none_iff.2 h

end Sys2Proof.Machine
end

