-- ==== Sys2Proof/Laws/Decoded.lean ====
section
/-! SUPPORT. The resolution of a decoded pair: the mode of a kind has that kind and the operand bytes of its value, and the
branches are the mnemonics with a relative form (30_encoding R76, R84). -/

namespace Sys2Proof.Machine

@[simp] theorem modeOf_kind (k : ModeKind) (v : Int) : (modeOf k v).kind = k := by cases k <;> rfl

theorem loByte_ofInt (v : Int) : loByte (BitVec.ofInt 16 v) = BitVec.ofInt 8 v := by
  apply BitVec.eq_of_toNat_eq
  rw [loByte_toNat]
  simp only [BitVec.toNat_ofInt]
  omega

theorem hiByte_ofInt (v : Int) : hiByte (BitVec.ofInt 16 v) = BitVec.ofInt 8 (v / 256) := by
  apply BitVec.eq_of_toNat_eq
  rw [hiByte_toNat]
  simp only [BitVec.toNat_ofInt]
  omega

/-- The instruction of a decoded pair is found exactly where the chosen mode has a cell, whatever the value (R84, R88). -/
theorem instrOf?_modeOf_isSome (mn : Mnemonic) (k : ModeKind) (v : Int) :
    (instrOf? mn (modeOf k v)).isSome = supported mn k := by
  rw [instrOf?_isSome, modeOf_kind]

/-- Among the filled cells, those of a branch are those in the relative column. -/
theorem isBranch_eq_of_supported {mn : Mnemonic} {k : ModeKind} (h : supported mn k = true) :
    isBranch mn = decide (k = .rel) := by
  cases mn <;> cases k <;> first | (cases h; done) | rfl

end Sys2Proof.Machine
end

