-- ==== Sys2Proof/Laws/Frame.lean ====
section
/-! SUPPORT. What each shared operation leaves alone, one lemma per operation and field: reads touch only the log of hook
calls, writes only memory and that log, the stack also SP, arithmetic A, the flags and the count of draws. -/

namespace Sys2Proof.Machine

/-! ### A bus read -/

@[simp] theorem busRead_a (a : Word) (s : State) : ((busRead a s).2).a = s.a := rfl
@[simp] theorem busRead_x (a : Word) (s : State) : ((busRead a s).2).x = s.x := rfl
@[simp] theorem busRead_y (a : Word) (s : State) : ((busRead a s).2).y = s.y := rfl
@[simp] theorem busRead_sp (a : Word) (s : State) : ((busRead a s).2).sp = s.sp := rfl
@[simp] theorem busRead_pc (a : Word) (s : State) : ((busRead a s).2).pc = s.pc := rfl
@[simp] theorem busRead_p (a : Word) (s : State) : ((busRead a s).2).p = s.p := rfl
@[simp] theorem busRead_halted (a : Word) (s : State) : ((busRead a s).2).halted = s.halted := rfl
@[simp] theorem busRead_nmiPending (a : Word) (s : State) : ((busRead a s).2).nmiPending = s.nmiPending := rfl
@[simp] theorem busRead_fault (a : Word) (s : State) : ((busRead a s).2).fault = s.fault := rfl
@[simp] theorem busRead_mem (a : Word) (s : State) : ((busRead a s).2).mem = s.mem := rfl
@[simp] theorem busRead_params (a : Word) (s : State) : ((busRead a s).2).params = s.params := rfl
@[simp] theorem busRead_draws (a : Word) (s : State) : ((busRead a s).2).draws = s.draws := rfl
@[simp] theorem busRead_started (a : Word) (s : State) : ((busRead a s).2).started = s.started := rfl

/-! ### A bus write -/

@[simp] theorem busWrite_a (a : Word) (v : Byte) (s : State) : (busWrite a v s).a = s.a := rfl
@[simp] theorem busWrite_x (a : Word) (v : Byte) (s : State) : (busWrite a v s).x = s.x := rfl
@[simp] theorem busWrite_y (a : Word) (v : Byte) (s : State) : (busWrite a v s).y = s.y := rfl
@[simp] theorem busWrite_sp (a : Word) (v : Byte) (s : State) : (busWrite a v s).sp = s.sp := rfl
@[simp] theorem busWrite_pc (a : Word) (v : Byte) (s : State) : (busWrite a v s).pc = s.pc := rfl
@[simp] theorem busWrite_p (a : Word) (v : Byte) (s : State) : (busWrite a v s).p = s.p := rfl
@[simp] theorem busWrite_halted (a : Word) (v : Byte) (s : State) : (busWrite a v s).halted = s.halted := rfl
@[simp] theorem busWrite_nmiPending (a : Word) (v : Byte) (s : State) : (busWrite a v s).nmiPending = s.nmiPending := rfl
@[simp] theorem busWrite_fault (a : Word) (v : Byte) (s : State) : (busWrite a v s).fault = s.fault := rfl
@[simp] theorem busWrite_params (a : Word) (v : Byte) (s : State) : (busWrite a v s).params = s.params := rfl
@[simp] theorem busWrite_draws (a : Word) (v : Byte) (s : State) : (busWrite a v s).draws = s.draws := rfl
@[simp] theorem busWrite_started (a : Word) (v : Byte) (s : State) : (busWrite a v s).started = s.started := rfl

/-! ### Reading two bytes -/

@[simp] theorem readPair_a (a b : Word) (s : State) : ((readPair a b s).2).a = s.a := rfl
@[simp] theorem readPair_x (a b : Word) (s : State) : ((readPair a b s).2).x = s.x := rfl
@[simp] theorem readPair_y (a b : Word) (s : State) : ((readPair a b s).2).y = s.y := rfl
@[simp] theorem readPair_sp (a b : Word) (s : State) : ((readPair a b s).2).sp = s.sp := rfl
@[simp] theorem readPair_pc (a b : Word) (s : State) : ((readPair a b s).2).pc = s.pc := rfl
@[simp] theorem readPair_p (a b : Word) (s : State) : ((readPair a b s).2).p = s.p := rfl
@[simp] theorem readPair_halted (a b : Word) (s : State) : ((readPair a b s).2).halted = s.halted := rfl
@[simp] theorem readPair_nmiPending (a b : Word) (s : State) : ((readPair a b s).2).nmiPending = s.nmiPending := rfl
@[simp] theorem readPair_fault (a b : Word) (s : State) : ((readPair a b s).2).fault = s.fault := rfl
@[simp] theorem readPair_mem (a b : Word) (s : State) : ((readPair a b s).2).mem = s.mem := rfl
@[simp] theorem readPair_params (a b : Word) (s : State) : ((readPair a b s).2).params = s.params := rfl
@[simp] theorem readPair_draws (a b : Word) (s : State) : ((readPair a b s).2).draws = s.draws := rfl
@[simp] theorem readPair_started (a b : Word) (s : State) : ((readPair a b s).2).started = s.started := rfl

/-! ### A 16-bit read -/

@[simp] theorem read16_a (a : Word) (s : State) : ((read16 a s).2).a = s.a := rfl
@[simp] theorem read16_x (a : Word) (s : State) : ((read16 a s).2).x = s.x := rfl
@[simp] theorem read16_y (a : Word) (s : State) : ((read16 a s).2).y = s.y := rfl
@[simp] theorem read16_sp (a : Word) (s : State) : ((read16 a s).2).sp = s.sp := rfl
@[simp] theorem read16_pc (a : Word) (s : State) : ((read16 a s).2).pc = s.pc := rfl
@[simp] theorem read16_p (a : Word) (s : State) : ((read16 a s).2).p = s.p := rfl
@[simp] theorem read16_halted (a : Word) (s : State) : ((read16 a s).2).halted = s.halted := rfl
@[simp] theorem read16_nmiPending (a : Word) (s : State) : ((read16 a s).2).nmiPending = s.nmiPending := rfl
@[simp] theorem read16_fault (a : Word) (s : State) : ((read16 a s).2).fault = s.fault := rfl
@[simp] theorem read16_mem (a : Word) (s : State) : ((read16 a s).2).mem = s.mem := rfl
@[simp] theorem read16_params (a : Word) (s : State) : ((read16 a s).2).params = s.params := rfl
@[simp] theorem read16_draws (a : Word) (s : State) : ((read16 a s).2).draws = s.draws := rfl
@[simp] theorem read16_started (a : Word) (s : State) : ((read16 a s).2).started = s.started := rfl

/-! ### A 16-bit read in page 0 -/

@[simp] theorem read16ZP_a (p : Byte) (s : State) : ((read16ZP p s).2).a = s.a := rfl
@[simp] theorem read16ZP_x (p : Byte) (s : State) : ((read16ZP p s).2).x = s.x := rfl
@[simp] theorem read16ZP_y (p : Byte) (s : State) : ((read16ZP p s).2).y = s.y := rfl
@[simp] theorem read16ZP_sp (p : Byte) (s : State) : ((read16ZP p s).2).sp = s.sp := rfl
@[simp] theorem read16ZP_pc (p : Byte) (s : State) : ((read16ZP p s).2).pc = s.pc := rfl
@[simp] theorem read16ZP_p (p : Byte) (s : State) : ((read16ZP p s).2).p = s.p := rfl
@[simp] theorem read16ZP_halted (p : Byte) (s : State) : ((read16ZP p s).2).halted = s.halted := rfl
@[simp] theorem read16ZP_nmiPending (p : Byte) (s : State) : ((read16ZP p s).2).nmiPending = s.nmiPending := rfl
@[simp] theorem read16ZP_fault (p : Byte) (s : State) : ((read16ZP p s).2).fault = s.fault := rfl
@[simp] theorem read16ZP_mem (p : Byte) (s : State) : ((read16ZP p s).2).mem = s.mem := rfl
@[simp] theorem read16ZP_params (p : Byte) (s : State) : ((read16ZP p s).2).params = s.params := rfl
@[simp] theorem read16ZP_draws (p : Byte) (s : State) : ((read16ZP p s).2).draws = s.draws := rfl
@[simp] theorem read16ZP_started (p : Byte) (s : State) : ((read16ZP p s).2).started = s.started := rfl

/-! ### A 16-bit read with the page bug -/

@[simp] theorem read16Bug_a (a : Word) (s : State) : ((read16Bug a s).2).a = s.a := rfl
@[simp] theorem read16Bug_x (a : Word) (s : State) : ((read16Bug a s).2).x = s.x := rfl
@[simp] theorem read16Bug_y (a : Word) (s : State) : ((read16Bug a s).2).y = s.y := rfl
@[simp] theorem read16Bug_sp (a : Word) (s : State) : ((read16Bug a s).2).sp = s.sp := rfl
@[simp] theorem read16Bug_pc (a : Word) (s : State) : ((read16Bug a s).2).pc = s.pc := rfl
@[simp] theorem read16Bug_p (a : Word) (s : State) : ((read16Bug a s).2).p = s.p := rfl
@[simp] theorem read16Bug_halted (a : Word) (s : State) : ((read16Bug a s).2).halted = s.halted := rfl
@[simp] theorem read16Bug_nmiPending (a : Word) (s : State) : ((read16Bug a s).2).nmiPending = s.nmiPending := rfl
@[simp] theorem read16Bug_fault (a : Word) (s : State) : ((read16Bug a s).2).fault = s.fault := rfl
@[simp] theorem read16Bug_mem (a : Word) (s : State) : ((read16Bug a s).2).mem = s.mem := rfl
@[simp] theorem read16Bug_params (a : Word) (s : State) : ((read16Bug a s).2).params = s.params := rfl
@[simp] theorem read16Bug_draws (a : Word) (s : State) : ((read16Bug a s).2).draws = s.draws := rfl
@[simp] theorem read16Bug_started (a : Word) (s : State) : ((read16Bug a s).2).started = s.started := rfl

/-! ### Resolving an address -/

@[simp] theorem effAddr_a (m : AddrMode) (s : State) : ((effAddr m s).2).a = s.a := by cases m <;> rfl
@[simp] theorem effAddr_x (m : AddrMode) (s : State) : ((effAddr m s).2).x = s.x := by cases m <;> rfl
@[simp] theorem effAddr_y (m : AddrMode) (s : State) : ((effAddr m s).2).y = s.y := by cases m <;> rfl
@[simp] theorem effAddr_sp (m : AddrMode) (s : State) : ((effAddr m s).2).sp = s.sp := by cases m <;> rfl
@[simp] theorem effAddr_pc (m : AddrMode) (s : State) : ((effAddr m s).2).pc = s.pc := by cases m <;> rfl
@[simp] theorem effAddr_p (m : AddrMode) (s : State) : ((effAddr m s).2).p = s.p := by cases m <;> rfl
@[simp] theorem effAddr_halted (m : AddrMode) (s : State) : ((effAddr m s).2).halted = s.halted := by cases m <;> rfl
@[simp] theorem effAddr_nmiPending (m : AddrMode) (s : State) : ((effAddr m s).2).nmiPending = s.nmiPending := by cases m <;> rfl
@[simp] theorem effAddr_fault (m : AddrMode) (s : State) : ((effAddr m s).2).fault = s.fault := by cases m <;> rfl
@[simp] theorem effAddr_mem (m : AddrMode) (s : State) : ((effAddr m s).2).mem = s.mem := by cases m <;> rfl
@[simp] theorem effAddr_params (m : AddrMode) (s : State) : ((effAddr m s).2).params = s.params := by cases m <;> rfl
@[simp] theorem effAddr_draws (m : AddrMode) (s : State) : ((effAddr m s).2).draws = s.draws := by cases m <;> rfl
@[simp] theorem effAddr_started (m : AddrMode) (s : State) : ((effAddr m s).2).started = s.started := by cases m <;> rfl

/-! ### Reading an operand -/

@[simp] theorem readOperand_a (o : Operand) (s : State) : ((readOperand o s).2).a = s.a := by
  cases o with
  | imm v => rfl
  | mem m => cases m <;> rfl
@[simp] theorem readOperand_x (o : Operand) (s : State) : ((readOperand o s).2).x = s.x := by
  cases o with
  | imm v => rfl
  | mem m => cases m <;> rfl
@[simp] theorem readOperand_y (o : Operand) (s : State) : ((readOperand o s).2).y = s.y := by
  cases o with
  | imm v => rfl
  | mem m => cases m <;> rfl
@[simp] theorem readOperand_sp (o : Operand) (s : State) : ((readOperand o s).2).sp = s.sp := by
  cases o with
  | imm v => rfl
  | mem m => cases m <;> rfl
@[simp] theorem readOperand_pc (o : Operand) (s : State) : ((readOperand o s).2).pc = s.pc := by
  cases o with
  | imm v => rfl
  | mem m => cases m <;> rfl
@[simp] theorem readOperand_p (o : Operand) (s : State) : ((readOperand o s).2).p = s.p := by
  cases o with
  | imm v => rfl
  | mem m => cases m <;> rfl
@[simp] theorem readOperand_halted (o : Operand) (s : State) : ((readOperand o s).2).halted = s.halted := by
  cases o with
  | imm v => rfl
  | mem m => cases m <;> rfl
@[simp] theorem readOperand_nmiPending (o : Operand) (s : State) : ((readOperand o s).2).nmiPending = s.nmiPending := by
  cases o with
  | imm v => rfl
  | mem m => cases m <;> rfl
@[simp] theorem readOperand_fault (o : Operand) (s : State) : ((readOperand o s).2).fault = s.fault := by
  cases o with
  | imm v => rfl
  | mem m => cases m <;> rfl
@[simp] theorem readOperand_mem (o : Operand) (s : State) : ((readOperand o s).2).mem = s.mem := by
  cases o with
  | imm v => rfl
  | mem m => cases m <;> rfl
@[simp] theorem readOperand_params (o : Operand) (s : State) : ((readOperand o s).2).params = s.params := by
  cases o with
  | imm v => rfl
  | mem m => cases m <;> rfl
@[simp] theorem readOperand_draws (o : Operand) (s : State) : ((readOperand o s).2).draws = s.draws := by
  cases o with
  | imm v => rfl
  | mem m => cases m <;> rfl
@[simp] theorem readOperand_started (o : Operand) (s : State) : ((readOperand o s).2).started = s.started := by
  cases o with
  | imm v => rfl
  | mem m => cases m <;> rfl

/-! ### A push -/

@[simp] theorem push_a (v : Byte) (s : State) : (push v s).a = s.a := rfl
@[simp] theorem push_x (v : Byte) (s : State) : (push v s).x = s.x := rfl
@[simp] theorem push_y (v : Byte) (s : State) : (push v s).y = s.y := rfl
@[simp] theorem push_pc (v : Byte) (s : State) : (push v s).pc = s.pc := rfl
@[simp] theorem push_p (v : Byte) (s : State) : (push v s).p = s.p := rfl
@[simp] theorem push_halted (v : Byte) (s : State) : (push v s).halted = s.halted := rfl
@[simp] theorem push_nmiPending (v : Byte) (s : State) : (push v s).nmiPending = s.nmiPending := rfl
@[simp] theorem push_fault (v : Byte) (s : State) : (push v s).fault = s.fault := rfl
@[simp] theorem push_params (v : Byte) (s : State) : (push v s).params = s.params := rfl
@[simp] theorem push_draws (v : Byte) (s : State) : (push v s).draws = s.draws := rfl
@[simp] theorem push_started (v : Byte) (s : State) : (push v s).started = s.started := rfl

@[simp] theorem pushWord_a (w : Word) (s : State) : (pushWord w s).a = s.a := by simp only [pushWord, push_a]
@[simp] theorem pushWord_x (w : Word) (s : State) : (pushWord w s).x = s.x := by simp only [pushWord, push_x]
@[simp] theorem pushWord_y (w : Word) (s : State) : (pushWord w s).y = s.y := by simp only [pushWord, push_y]
@[simp] theorem pushWord_pc (w : Word) (s : State) : (pushWord w s).pc = s.pc := by simp only [pushWord, push_pc]
@[simp] theorem pushWord_p (w : Word) (s : State) : (pushWord w s).p = s.p := by simp only [pushWord, push_p]
@[simp] theorem pushWord_halted (w : Word) (s : State) : (pushWord w s).halted = s.halted := by simp only [pushWord, push_halted]
@[simp] theorem pushWord_nmiPending (w : Word) (s : State) : (pushWord w s).nmiPending = s.nmiPending := by simp only [pushWord, push_nmiPending]
@[simp] theorem pushWord_fault (w : Word) (s : State) : (pushWord w s).fault = s.fault := by simp only [pushWord, push_fault]
@[simp] theorem pushWord_params (w : Word) (s : State) : (pushWord w s).params = s.params := by simp only [pushWord, push_params]
@[simp] theorem pushWord_draws (w : Word) (s : State) : (pushWord w s).draws = s.draws := by simp only [pushWord, push_draws]
@[simp] theorem pushWord_started (w : Word) (s : State) : (pushWord w s).started = s.started := by simp only [pushWord, push_started]

/-! ### A pull -/

@[simp] theorem pull_a (s : State) : ((pull s).2).a = s.a := rfl
@[simp] theorem pull_x (s : State) : ((pull s).2).x = s.x := rfl
@[simp] theorem pull_y (s : State) : ((pull s).2).y = s.y := rfl
@[simp] theorem pull_pc (s : State) : ((pull s).2).pc = s.pc := rfl
@[simp] theorem pull_p (s : State) : ((pull s).2).p = s.p := rfl
@[simp] theorem pull_halted (s : State) : ((pull s).2).halted = s.halted := rfl
@[simp] theorem pull_nmiPending (s : State) : ((pull s).2).nmiPending = s.nmiPending := rfl
@[simp] theorem pull_fault (s : State) : ((pull s).2).fault = s.fault := rfl
@[simp] theorem pull_mem (s : State) : ((pull s).2).mem = s.mem := rfl
@[simp] theorem pull_params (s : State) : ((pull s).2).params = s.params := rfl
@[simp] theorem pull_draws (s : State) : ((pull s).2).draws = s.draws := rfl
@[simp] theorem pull_started (s : State) : ((pull s).2).started = s.started := rfl

@[simp] theorem pullWord_a (s : State) : (pullWord s).2.a = s.a := by simp only [pullWord, pull_a]
@[simp] theorem pullWord_x (s : State) : (pullWord s).2.x = s.x := by simp only [pullWord, pull_x]
@[simp] theorem pullWord_y (s : State) : (pullWord s).2.y = s.y := by simp only [pullWord, pull_y]
@[simp] theorem pullWord_pc (s : State) : (pullWord s).2.pc = s.pc := by simp only [pullWord, pull_pc]
@[simp] theorem pullWord_p (s : State) : (pullWord s).2.p = s.p := by simp only [pullWord, pull_p]
@[simp] theorem pullWord_halted (s : State) : (pullWord s).2.halted = s.halted := by simp only [pullWord, pull_halted]
@[simp] theorem pullWord_nmiPending (s : State) : (pullWord s).2.nmiPending = s.nmiPending := by simp only [pullWord, pull_nmiPending]
@[simp] theorem pullWord_fault (s : State) : (pullWord s).2.fault = s.fault := by simp only [pullWord, pull_fault]
@[simp] theorem pullWord_mem (s : State) : (pullWord s).2.mem = s.mem := by simp only [pullWord, pull_mem]
@[simp] theorem pullWord_params (s : State) : (pullWord s).2.params = s.params := by simp only [pullWord, pull_params]
@[simp] theorem pullWord_draws (s : State) : (pullWord s).2.draws = s.draws := by simp only [pullWord, pull_draws]
@[simp] theorem pullWord_started (s : State) : (pullWord s).2.started = s.started := by simp only [pullWord, pull_started]

/-! ### Advancing PC -/

@[simp] theorem advance_a (n : Nat) (s : State) : (advance n s).a = s.a := rfl
@[simp] theorem advance_x (n : Nat) (s : State) : (advance n s).x = s.x := rfl
@[simp] theorem advance_y (n : Nat) (s : State) : (advance n s).y = s.y := rfl
@[simp] theorem advance_sp (n : Nat) (s : State) : (advance n s).sp = s.sp := rfl
@[simp] theorem advance_p (n : Nat) (s : State) : (advance n s).p = s.p := rfl
@[simp] theorem advance_halted (n : Nat) (s : State) : (advance n s).halted = s.halted := rfl
@[simp] theorem advance_nmiPending (n : Nat) (s : State) : (advance n s).nmiPending = s.nmiPending := rfl
@[simp] theorem advance_fault (n : Nat) (s : State) : (advance n s).fault = s.fault := rfl
@[simp] theorem advance_mem (n : Nat) (s : State) : (advance n s).mem = s.mem := rfl
@[simp] theorem advance_params (n : Nat) (s : State) : (advance n s).params = s.params := rfl
@[simp] theorem advance_hookLog (n : Nat) (s : State) : (advance n s).hookLog = s.hookLog := rfl
@[simp] theorem advance_draws (n : Nat) (s : State) : (advance n s).draws = s.draws := rfl
@[simp] theorem advance_started (n : Nat) (s : State) : (advance n s).started = s.started := rfl

@[simp] theorem advance_pc (n : Nat) (s : State) : (advance n s).pc = s.pc + BitVec.ofNat 16 n := rfl
@[simp] theorem push_sp (v : Byte) (s : State) : (push v s).sp = s.sp - 1 := rfl
@[simp] theorem pull_sp (s : State) : (pull s).2.sp = s.sp + 1 := rfl
@[simp] theorem pushWord_sp (w : Word) (s : State) : (pushWord w s).sp = s.sp - 1 - 1 := by simp only [pushWord, push_sp]
@[simp] theorem pullWord_sp (s : State) : (pullWord s).2.sp = s.sp + 1 + 1 := by simp only [pullWord, pull_sp]

/-! ### ADC of a byte -/

@[simp] theorem adcOperand_x (m : Byte) (s : State) : (adcOperand m s).x = s.x := by
  unfold adcOperand
  split <;> rfl
@[simp] theorem adcOperand_y (m : Byte) (s : State) : (adcOperand m s).y = s.y := by
  unfold adcOperand
  split <;> rfl
@[simp] theorem adcOperand_sp (m : Byte) (s : State) : (adcOperand m s).sp = s.sp := by
  unfold adcOperand
  split <;> rfl
@[simp] theorem adcOperand_pc (m : Byte) (s : State) : (adcOperand m s).pc = s.pc := by
  unfold adcOperand
  split <;> rfl
@[simp] theorem adcOperand_halted (m : Byte) (s : State) : (adcOperand m s).halted = s.halted := by
  unfold adcOperand
  split <;> rfl
@[simp] theorem adcOperand_nmiPending (m : Byte) (s : State) : (adcOperand m s).nmiPending = s.nmiPending := by
  unfold adcOperand
  split <;> rfl
@[simp] theorem adcOperand_fault (m : Byte) (s : State) : (adcOperand m s).fault = s.fault := by
  unfold adcOperand
  split <;> rfl
@[simp] theorem adcOperand_mem (m : Byte) (s : State) : (adcOperand m s).mem = s.mem := by
  unfold adcOperand
  split <;> rfl
@[simp] theorem adcOperand_params (m : Byte) (s : State) : (adcOperand m s).params = s.params := by
  unfold adcOperand
  split <;> rfl
@[simp] theorem adcOperand_hookLog (m : Byte) (s : State) : (adcOperand m s).hookLog = s.hookLog := by
  unfold adcOperand
  split <;> rfl
@[simp] theorem adcOperand_started (m : Byte) (s : State) : (adcOperand m s).started = s.started := by
  unfold adcOperand
  split <;> rfl

@[simp] theorem adcOperand_p_d (m : Byte) (s : State) : (adcOperand m s).p.d = s.p.d := by
  unfold adcOperand
  split <;> rfl
@[simp] theorem adcOperand_p_i (m : Byte) (s : State) : (adcOperand m s).p.i = s.p.i := by
  unfold adcOperand
  split <;> rfl

/-! ### SBC of a byte -/

@[simp] theorem sbcOperand_x (m : Byte) (s : State) : (sbcOperand m s).x = s.x := by
  unfold sbcOperand
  split <;> rfl
@[simp] theorem sbcOperand_y (m : Byte) (s : State) : (sbcOperand m s).y = s.y := by
  unfold sbcOperand
  split <;> rfl
@[simp] theorem sbcOperand_sp (m : Byte) (s : State) : (sbcOperand m s).sp = s.sp := by
  unfold sbcOperand
  split <;> rfl
@[simp] theorem sbcOperand_pc (m : Byte) (s : State) : (sbcOperand m s).pc = s.pc := by
  unfold sbcOperand
  split <;> rfl
@[simp] theorem sbcOperand_halted (m : Byte) (s : State) : (sbcOperand m s).halted = s.halted := by
  unfold sbcOperand
  split <;> rfl
@[simp] theorem sbcOperand_nmiPending (m : Byte) (s : State) : (sbcOperand m s).nmiPending = s.nmiPending := by
  unfold sbcOperand
  split <;> rfl
@[simp] theorem sbcOperand_fault (m : Byte) (s : State) : (sbcOperand m s).fault = s.fault := by
  unfold sbcOperand
  split <;> rfl
@[simp] theorem sbcOperand_mem (m : Byte) (s : State) : (sbcOperand m s).mem = s.mem := by
  unfold sbcOperand
  split <;> rfl
@[simp] theorem sbcOperand_params (m : Byte) (s : State) : (sbcOperand m s).params = s.params := by
  unfold sbcOperand
  split <;> rfl
@[simp] theorem sbcOperand_hookLog (m : Byte) (s : State) : (sbcOperand m s).hookLog = s.hookLog := by
  unfold sbcOperand
  split <;> rfl
@[simp] theorem sbcOperand_started (m : Byte) (s : State) : (sbcOperand m s).started = s.started := by
  unfold sbcOperand
  split <;> rfl

@[simp] theorem sbcOperand_p_d (m : Byte) (s : State) : (sbcOperand m s).p.d = s.p.d := by
  unfold sbcOperand
  split <;> rfl
@[simp] theorem sbcOperand_p_i (m : Byte) (s : State) : (sbcOperand m s).p.i = s.p.i := by
  unfold sbcOperand
  split <;> rfl

/-! ### What an instruction's shape answers -/

theorem withOperand_next {o : Operand} {f : Byte → State → State} {s t : State} :
    withOperand o f s = .next t ↔ t = advance (operandLength o) (f (readOperand o s).1 (readOperand o s).2) :=
  ⟨fun h => by cases h; rfl, fun h => h ▸ rfl⟩

theorem implied_next {f : State → State} {s t : State} : implied f s = .next t ↔ t = advance 1 (f s) :=
  ⟨fun h => by cases h; rfl, fun h => h ▸ rfl⟩

theorem storeByte_next {m : AddrMode} {v : Byte} {s t : State} :
    storeByte m v s = .next t ↔ t = advance (addrModeLength m) (busWrite (effAddr m s).1 v (effAddr m s).2) :=
  ⟨fun h => by cases h; rfl, fun h => h ▸ rfl⟩

theorem branchIf_next {taken : Bool} {off : Byte} {s t : State} :
    branchIf taken off s = .next t ↔ t = s.setPC (if taken then branchTarget s.pc off else s.pc + 2) :=
  ⟨fun h => by cases h; rfl, fun h => h ▸ rfl⟩

/-- A read-modify-write changes only the flags, PC, memory and the log of hook calls. -/
theorem modifyByte_next {m : AddrMode} {f : Byte → Flags → Byte × Flags} {s t : State}
    (h : modifyByte m f s = .next t) :
    t.a = s.a ∧ t.x = s.x ∧ t.y = s.y ∧ t.sp = s.sp ∧ t.pc = s.pc + BitVec.ofNat 16 (addrModeLength m) ∧
    t.halted = s.halted ∧ t.nmiPending = s.nmiPending ∧ t.fault = s.fault ∧ t.params = s.params ∧ t.draws = s.draws ∧
    t.started = s.started := by
  cases h
  simp

theorem effAddr_inv (m : AddrMode) {s : State} (h : s.Inv) : (effAddr m s).2.Inv := by
  unfold State.Inv
  rw [effAddr_mem]
  exact h

/-- A store changes no byte but the one at the effective address. -/
theorem storeByte_byteAt_other {m : AddrMode} {v : Byte} {s t : State} (hi : s.Inv) (h : storeByte m v s = .next t)
    {a : Word} (ha : a ≠ (effAddr m s).1) : t.byteAt a = s.byteAt a := by
  rw [storeByte_next.1 h]
  show (busWrite (effAddr m s).1 v (effAddr m s).2).byteAt a = s.byteAt a
  rw [busWrite_byteAt_other v (effAddr_inv m hi) ha]
  simp [State.byteAt]

/-- With no hook in the way a store puts its byte at the effective address. -/
theorem storeByte_byteAt_self (m : AddrMode) (v : Byte) {s : State} (hi : s.Inv) (h : s.params.writeHooks = []) :
    ∃ t, storeByte m v s = .next t ∧ t.byteAt (effAddr m s).1 = v := by
  refine ⟨_, rfl, ?_⟩
  show (busWrite (effAddr m s).1 v (effAddr m s).2).byteAt (effAddr m s).1 = v
  rw [busWrite_noHooks _ _ (by simpa using h), State.setMem_put_byteAt (effAddr_inv m hi)]
  simp

/-- A read-modify-write changes no byte but the one at the effective address. -/
theorem modifyByte_byteAt_other {m : AddrMode} {f : Byte → Flags → Byte × Flags} {s t : State} (hi : s.Inv)
    (h : modifyByte m f s = .next t) {a : Word} (ha : a ≠ (effAddr m s).1) : t.byteAt a = s.byteAt a := by
  cases h
  have hi2 : (busRead (effAddr m s).1 (effAddr m s).2).2.Inv := by
    unfold State.Inv
    rw [busRead_mem, effAddr_mem]
    exact hi
  show (busWrite (effAddr m s).1 _ (busRead (effAddr m s).1 (effAddr m s).2).2).byteAt a = s.byteAt a
  rw [busWrite_byteAt_other _ hi2 ha]
  simp [State.byteAt]

/-- The same on A changes only A, the flags and PC. -/
theorem modifyA_next {f : Byte → Flags → Byte × Flags} {s t : State} :
    modifyA f s = .next t ↔ t = { s with a := (f s.a s.p).1, p := (f s.a s.p).2, pc := s.pc + 1 } :=
  ⟨fun h => by cases h; rfl, fun h => h ▸ rfl⟩

end Sys2Proof.Machine
end

