-- ==== Sys2Proof/Laws/PerInstr.lean ====
section
/-! SUPPORT. Statements about every instruction as syntax, one lemma per constructor. -/

namespace Sys2Proof.Laws

/-- An instruction is a filled cell of the opcode map, `instrOf?` finds it again from its mnemonic and mode, and its
opcode byte alone selects the form it comes from and the length of its encoding (30_encoding R76, R79, R84). -/
def Form.Statement (i : Instr) : Prop :=
  i.wellFormed = true ∧ instrOf? i.mnemonic i.mode = some i ∧
    ∃ f, formOf i.opcode = some f ∧ f.withOperand i.mode = i ∧ f.length = (encode i).length

theorem Form.ldaImm (v : Byte) : Form.Statement (.ldaImm v) :=
  ⟨rfl, rfl, _, rfl, rfl, rfl⟩
theorem Form.ldaZp (a : Byte) : Form.Statement (.ldaZp a) :=
  ⟨rfl, rfl, _, rfl, rfl, rfl⟩
theorem Form.ldaZpx (a : Byte) : Form.Statement (.ldaZpx a) :=
  ⟨rfl, rfl, _, rfl, rfl, rfl⟩
theorem Form.ldaAbs (a : Word) : Form.Statement (.ldaAbs a) :=
  ⟨rfl, rfl, _, rfl, rfl, rfl⟩
theorem Form.ldaAbsx (a : Word) : Form.Statement (.ldaAbsx a) :=
  ⟨rfl, rfl, _, rfl, rfl, rfl⟩
theorem Form.ldaAbsy (a : Word) : Form.Statement (.ldaAbsy a) :=
  ⟨rfl, rfl, _, rfl, rfl, rfl⟩
theorem Form.ldaIndx (a : Byte) : Form.Statement (.ldaIndx a) :=
  ⟨rfl, rfl, _, rfl, rfl, rfl⟩
theorem Form.ldaIndy (a : Byte) : Form.Statement (.ldaIndy a) :=
  ⟨rfl, rfl, _, rfl, rfl, rfl⟩
theorem Form.ldxImm (v : Byte) : Form.Statement (.ldxImm v) :=
  ⟨rfl, rfl, _, rfl, rfl, rfl⟩
theorem Form.ldxZp (a : Byte) : Form.Statement (.ldxZp a) :=
  ⟨rfl, rfl, _, rfl, rfl, rfl⟩
theorem Form.ldxZpy (a : Byte) : Form.Statement (.ldxZpy a) :=
  ⟨rfl, rfl, _, rfl, rfl, rfl⟩
theorem Form.ldxAbs (a : Word) : Form.Statement (.ldxAbs a) :=
  ⟨rfl, rfl, _, rfl, rfl, rfl⟩
theorem Form.ldxAbsy (a : Word) : Form.Statement (.ldxAbsy a) :=
  ⟨rfl, rfl, _, rfl, rfl, rfl⟩
theorem Form.ldyImm (v : Byte) : Form.Statement (.ldyImm v) :=
  ⟨rfl, rfl, _, rfl, rfl, rfl⟩
theorem Form.ldyZp (a : Byte) : Form.Statement (.ldyZp a) :=
  ⟨rfl, rfl, _, rfl, rfl, rfl⟩
theorem Form.ldyZpx (a : Byte) : Form.Statement (.ldyZpx a) :=
  ⟨rfl, rfl, _, rfl, rfl, rfl⟩
theorem Form.ldyAbs (a : Word) : Form.Statement (.ldyAbs a) :=
  ⟨rfl, rfl, _, rfl, rfl, rfl⟩
theorem Form.ldyAbsx (a : Word) : Form.Statement (.ldyAbsx a) :=
  ⟨rfl, rfl, _, rfl, rfl, rfl⟩
theorem Form.staZp (a : Byte) : Form.Statement (.staZp a) :=
  ⟨rfl, rfl, _, rfl, rfl, rfl⟩
theorem Form.staZpx (a : Byte) : Form.Statement (.staZpx a) :=
  ⟨rfl, rfl, _, rfl, rfl, rfl⟩
theorem Form.staAbs (a : Word) : Form.Statement (.staAbs a) :=
  ⟨rfl, rfl, _, rfl, rfl, rfl⟩
theorem Form.staAbsx (a : Word) : Form.Statement (.staAbsx a) :=
  ⟨rfl, rfl, _, rfl, rfl, rfl⟩
theorem Form.staAbsy (a : Word) : Form.Statement (.staAbsy a) :=
  ⟨rfl, rfl, _, rfl, rfl, rfl⟩
theorem Form.staIndx (a : Byte) : Form.Statement (.staIndx a) :=
  ⟨rfl, rfl, _, rfl, rfl, rfl⟩
theorem Form.staIndy (a : Byte) : Form.Statement (.staIndy a) :=
  ⟨rfl, rfl, _, rfl, rfl, rfl⟩
theorem Form.stxZp (a : Byte) : Form.Statement (.stxZp a) :=
  ⟨rfl, rfl, _, rfl, rfl, rfl⟩
theorem Form.stxZpy (a : Byte) : Form.Statement (.stxZpy a) :=
  ⟨rfl, rfl, _, rfl, rfl, rfl⟩
theorem Form.stxAbs (a : Word) : Form.Statement (.stxAbs a) :=
  ⟨rfl, rfl, _, rfl, rfl, rfl⟩
theorem Form.styZp (a : Byte) : Form.Statement (.styZp a) :=
  ⟨rfl, rfl, _, rfl, rfl, rfl⟩
theorem Form.styZpx (a : Byte) : Form.Statement (.styZpx a) :=
  ⟨rfl, rfl, _, rfl, rfl, rfl⟩
theorem Form.styAbs (a : Word) : Form.Statement (.styAbs a) :=
  ⟨rfl, rfl, _, rfl, rfl, rfl⟩
theorem Form.tax : Form.Statement (.tax) :=
  ⟨rfl, rfl, _, rfl, rfl, rfl⟩
theorem Form.tay : Form.Statement (.tay) :=
  ⟨rfl, rfl, _, rfl, rfl, rfl⟩
theorem Form.txa : Form.Statement (.txa) :=
  ⟨rfl, rfl, _, rfl, rfl, rfl⟩
theorem Form.tya : Form.Statement (.tya) :=
  ⟨rfl, rfl, _, rfl, rfl, rfl⟩
theorem Form.tsx : Form.Statement (.tsx) :=
  ⟨rfl, rfl, _, rfl, rfl, rfl⟩
theorem Form.txs : Form.Statement (.txs) :=
  ⟨rfl, rfl, _, rfl, rfl, rfl⟩
theorem Form.incZp (a : Byte) : Form.Statement (.incZp a) :=
  ⟨rfl, rfl, _, rfl, rfl, rfl⟩
theorem Form.incZpx (a : Byte) : Form.Statement (.incZpx a) :=
  ⟨rfl, rfl, _, rfl, rfl, rfl⟩
theorem Form.incAbs (a : Word) : Form.Statement (.incAbs a) :=
  ⟨rfl, rfl, _, rfl, rfl, rfl⟩
theorem Form.incAbsx (a : Word) : Form.Statement (.incAbsx a) :=
  ⟨rfl, rfl, _, rfl, rfl, rfl⟩
theorem Form.decZp (a : Byte) : Form.Statement (.decZp a) :=
  ⟨rfl, rfl, _, rfl, rfl, rfl⟩
theorem Form.decZpx (a : Byte) : Form.Statement (.decZpx a) :=
  ⟨rfl, rfl, _, rfl, rfl, rfl⟩
theorem Form.decAbs (a : Word) : Form.Statement (.decAbs a) :=
  ⟨rfl, rfl, _, rfl, rfl, rfl⟩
theorem Form.decAbsx (a : Word) : Form.Statement (.decAbsx a) :=
  ⟨rfl, rfl, _, rfl, rfl, rfl⟩
theorem Form.inx : Form.Statement (.inx) :=
  ⟨rfl, rfl, _, rfl, rfl, rfl⟩
theorem Form.iny : Form.Statement (.iny) :=
  ⟨rfl, rfl, _, rfl, rfl, rfl⟩
theorem Form.dex : Form.Statement (.dex) :=
  ⟨rfl, rfl, _, rfl, rfl, rfl⟩
theorem Form.dey : Form.Statement (.dey) :=
  ⟨rfl, rfl, _, rfl, rfl, rfl⟩
theorem Form.aslAcc : Form.Statement (.aslAcc) :=
  ⟨rfl, rfl, _, rfl, rfl, rfl⟩
theorem Form.aslZp (a : Byte) : Form.Statement (.aslZp a) :=
  ⟨rfl, rfl, _, rfl, rfl, rfl⟩
theorem Form.aslZpx (a : Byte) : Form.Statement (.aslZpx a) :=
  ⟨rfl, rfl, _, rfl, rfl, rfl⟩
theorem Form.aslAbs (a : Word) : Form.Statement (.aslAbs a) :=
  ⟨rfl, rfl, _, rfl, rfl, rfl⟩
theorem Form.aslAbsx (a : Word) : Form.Statement (.aslAbsx a) :=
  ⟨rfl, rfl, _, rfl, rfl, rfl⟩
theorem Form.lsrAcc : Form.Statement (.lsrAcc) :=
  ⟨rfl, rfl, _, rfl, rfl, rfl⟩
theorem Form.lsrZp (a : Byte) : Form.Statement (.lsrZp a) :=
  ⟨rfl, rfl, _, rfl, rfl, rfl⟩
theorem Form.lsrZpx (a : Byte) : Form.Statement (.lsrZpx a) :=
  ⟨rfl, rfl, _, rfl, rfl, rfl⟩
theorem Form.lsrAbs (a : Word) : Form.Statement (.lsrAbs a) :=
  ⟨rfl, rfl, _, rfl, rfl, rfl⟩
theorem Form.lsrAbsx (a : Word) : Form.Statement (.lsrAbsx a) :=
  ⟨rfl, rfl, _, rfl, rfl, rfl⟩
theorem Form.rolAcc : Form.Statement (.rolAcc) :=
  ⟨rfl, rfl, _, rfl, rfl, rfl⟩
theorem Form.rolZp (a : Byte) : Form.Statement (.rolZp a) :=
  ⟨rfl, rfl, _, rfl, rfl, rfl⟩
theorem Form.rolZpx (a : Byte) : Form.Statement (.rolZpx a) :=
  ⟨rfl, rfl, _, rfl, rfl, rfl⟩
theorem Form.rolAbs (a : Word) : Form.Statement (.rolAbs a) :=
  ⟨rfl, rfl, _, rfl, rfl, rfl⟩
theorem Form.rolAbsx (a : Word) : Form.Statement (.rolAbsx a) :=
  ⟨rfl, rfl, _, rfl, rfl, rfl⟩
theorem Form.rorAcc : Form.Statement (.rorAcc) :=
  ⟨rfl, rfl, _, rfl, rfl, rfl⟩
theorem Form.rorZp (a : Byte) : Form.Statement (.rorZp a) :=
  ⟨rfl, rfl, _, rfl, rfl, rfl⟩
theorem Form.rorZpx (a : Byte) : Form.Statement (.rorZpx a) :=
  ⟨rfl, rfl, _, rfl, rfl, rfl⟩
theorem Form.rorAbs (a : Word) : Form.Statement (.rorAbs a) :=
  ⟨rfl, rfl, _, rfl, rfl, rfl⟩
theorem Form.rorAbsx (a : Word) : Form.Statement (.rorAbsx a) :=
  ⟨rfl, rfl, _, rfl, rfl, rfl⟩
theorem Form.andImm (v : Byte) : Form.Statement (.andImm v) :=
  ⟨rfl, rfl, _, rfl, rfl, rfl⟩
theorem Form.andZp (a : Byte) : Form.Statement (.andZp a) :=
  ⟨rfl, rfl, _, rfl, rfl, rfl⟩
theorem Form.andZpx (a : Byte) : Form.Statement (.andZpx a) :=
  ⟨rfl, rfl, _, rfl, rfl, rfl⟩
theorem Form.andAbs (a : Word) : Form.Statement (.andAbs a) :=
  ⟨rfl, rfl, _, rfl, rfl, rfl⟩
theorem Form.andAbsx (a : Word) : Form.Statement (.andAbsx a) :=
  ⟨rfl, rfl, _, rfl, rfl, rfl⟩
theorem Form.andAbsy (a : Word) : Form.Statement (.andAbsy a) :=
  ⟨rfl, rfl, _, rfl, rfl, rfl⟩
theorem Form.andIndx (a : Byte) : Form.Statement (.andIndx a) :=
  ⟨rfl, rfl, _, rfl, rfl, rfl⟩
theorem Form.andIndy (a : Byte) : Form.Statement (.andIndy a) :=
  ⟨rfl, rfl, _, rfl, rfl, rfl⟩
theorem Form.oraImm (v : Byte) : Form.Statement (.oraImm v) :=
  ⟨rfl, rfl, _, rfl, rfl, rfl⟩
theorem Form.oraZp (a : Byte) : Form.Statement (.oraZp a) :=
  ⟨rfl, rfl, _, rfl, rfl, rfl⟩
theorem Form.oraZpx (a : Byte) : Form.Statement (.oraZpx a) :=
  ⟨rfl, rfl, _, rfl, rfl, rfl⟩
theorem Form.oraAbs (a : Word) : Form.Statement (.oraAbs a) :=
  ⟨rfl, rfl, _, rfl, rfl, rfl⟩
theorem Form.oraAbsx (a : Word) : Form.Statement (.oraAbsx a) :=
  ⟨rfl, rfl, _, rfl, rfl, rfl⟩
theorem Form.oraAbsy (a : Word) : Form.Statement (.oraAbsy a) :=
  ⟨rfl, rfl, _, rfl, rfl, rfl⟩
theorem Form.oraIndx (a : Byte) : Form.Statement (.oraIndx a) :=
  ⟨rfl, rfl, _, rfl, rfl, rfl⟩
theorem Form.oraIndy (a : Byte) : Form.Statement (.oraIndy a) :=
  ⟨rfl, rfl, _, rfl, rfl, rfl⟩
theorem Form.eorImm (v : Byte) : Form.Statement (.eorImm v) :=
  ⟨rfl, rfl, _, rfl, rfl, rfl⟩
theorem Form.eorZp (a : Byte) : Form.Statement (.eorZp a) :=
  ⟨rfl, rfl, _, rfl, rfl, rfl⟩
theorem Form.eorZpx (a : Byte) : Form.Statement (.eorZpx a) :=
  ⟨rfl, rfl, _, rfl, rfl, rfl⟩
theorem Form.eorAbs (a : Word) : Form.Statement (.eorAbs a) :=
  ⟨rfl, rfl, _, rfl, rfl, rfl⟩
theorem Form.eorAbsx (a : Word) : Form.Statement (.eorAbsx a) :=
  ⟨rfl, rfl, _, rfl, rfl, rfl⟩
theorem Form.eorAbsy (a : Word) : Form.Statement (.eorAbsy a) :=
  ⟨rfl, rfl, _, rfl, rfl, rfl⟩
theorem Form.eorIndx (a : Byte) : Form.Statement (.eorIndx a) :=
  ⟨rfl, rfl, _, rfl, rfl, rfl⟩
theorem Form.eorIndy (a : Byte) : Form.Statement (.eorIndy a) :=
  ⟨rfl, rfl, _, rfl, rfl, rfl⟩
theorem Form.cmpImm (v : Byte) : Form.Statement (.cmpImm v) :=
  ⟨rfl, rfl, _, rfl, rfl, rfl⟩
theorem Form.cmpZp (a : Byte) : Form.Statement (.cmpZp a) :=
  ⟨rfl, rfl, _, rfl, rfl, rfl⟩
theorem Form.cmpZpx (a : Byte) : Form.Statement (.cmpZpx a) :=
  ⟨rfl, rfl, _, rfl, rfl, rfl⟩
theorem Form.cmpAbs (a : Word) : Form.Statement (.cmpAbs a) :=
  ⟨rfl, rfl, _, rfl, rfl, rfl⟩
theorem Form.cmpAbsx (a : Word) : Form.Statement (.cmpAbsx a) :=
  ⟨rfl, rfl, _, rfl, rfl, rfl⟩
theorem Form.cmpAbsy (a : Word) : Form.Statement (.cmpAbsy a) :=
  ⟨rfl, rfl, _, rfl, rfl, rfl⟩
theorem Form.cmpIndx (a : Byte) : Form.Statement (.cmpIndx a) :=
  ⟨rfl, rfl, _, rfl, rfl, rfl⟩
theorem Form.cmpIndy (a : Byte) : Form.Statement (.cmpIndy a) :=
  ⟨rfl, rfl, _, rfl, rfl, rfl⟩
theorem Form.cpxImm (v : Byte) : Form.Statement (.cpxImm v) :=
  ⟨rfl, rfl, _, rfl, rfl, rfl⟩
theorem Form.cpxZp (a : Byte) : Form.Statement (.cpxZp a) :=
  ⟨rfl, rfl, _, rfl, rfl, rfl⟩
theorem Form.cpxAbs (a : Word) : Form.Statement (.cpxAbs a) :=
  ⟨rfl, rfl, _, rfl, rfl, rfl⟩
theorem Form.cpyImm (v : Byte) : Form.Statement (.cpyImm v) :=
  ⟨rfl, rfl, _, rfl, rfl, rfl⟩
theorem Form.cpyZp (a : Byte) : Form.Statement (.cpyZp a) :=
  ⟨rfl, rfl, _, rfl, rfl, rfl⟩
theorem Form.cpyAbs (a : Word) : Form.Statement (.cpyAbs a) :=
  ⟨rfl, rfl, _, rfl, rfl, rfl⟩
theorem Form.bitZp (a : Byte) : Form.Statement (.bitZp a) :=
  ⟨rfl, rfl, _, rfl, rfl, rfl⟩
theorem Form.bitAbs (a : Word) : Form.Statement (.bitAbs a) :=
  ⟨rfl, rfl, _, rfl, rfl, rfl⟩
theorem Form.bcc (off : Byte) : Form.Statement (.bcc off) :=
  ⟨rfl, rfl, _, rfl, rfl, rfl⟩
theorem Form.bcs (off : Byte) : Form.Statement (.bcs off) :=
  ⟨rfl, rfl, _, rfl, rfl, rfl⟩
theorem Form.beq (off : Byte) : Form.Statement (.beq off) :=
  ⟨rfl, rfl, _, rfl, rfl, rfl⟩
theorem Form.bne (off : Byte) : Form.Statement (.bne off) :=
  ⟨rfl, rfl, _, rfl, rfl, rfl⟩
theorem Form.bmi (off : Byte) : Form.Statement (.bmi off) :=
  ⟨rfl, rfl, _, rfl, rfl, rfl⟩
theorem Form.bpl (off : Byte) : Form.Statement (.bpl off) :=
  ⟨rfl, rfl, _, rfl, rfl, rfl⟩
theorem Form.bvc (off : Byte) : Form.Statement (.bvc off) :=
  ⟨rfl, rfl, _, rfl, rfl, rfl⟩
theorem Form.bvs (off : Byte) : Form.Statement (.bvs off) :=
  ⟨rfl, rfl, _, rfl, rfl, rfl⟩
theorem Form.clc : Form.Statement (.clc) :=
  ⟨rfl, rfl, _, rfl, rfl, rfl⟩
theorem Form.sec : Form.Statement (.sec) :=
  ⟨rfl, rfl, _, rfl, rfl, rfl⟩
theorem Form.cli : Form.Statement (.cli) :=
  ⟨rfl, rfl, _, rfl, rfl, rfl⟩
theorem Form.sei : Form.Statement (.sei) :=
  ⟨rfl, rfl, _, rfl, rfl, rfl⟩
theorem Form.cld : Form.Statement (.cld) :=
  ⟨rfl, rfl, _, rfl, rfl, rfl⟩
theorem Form.sed : Form.Statement (.sed) :=
  ⟨rfl, rfl, _, rfl, rfl, rfl⟩
theorem Form.clv : Form.Statement (.clv) :=
  ⟨rfl, rfl, _, rfl, rfl, rfl⟩
theorem Form.pha : Form.Statement (.pha) :=
  ⟨rfl, rfl, _, rfl, rfl, rfl⟩
theorem Form.pla : Form.Statement (.pla) :=
  ⟨rfl, rfl, _, rfl, rfl, rfl⟩
theorem Form.php : Form.Statement (.php) :=
  ⟨rfl, rfl, _, rfl, rfl, rfl⟩
theorem Form.plp : Form.Statement (.plp) :=
  ⟨rfl, rfl, _, rfl, rfl, rfl⟩
theorem Form.jmpAbs (a : Word) : Form.Statement (.jmpAbs a) :=
  ⟨rfl, rfl, _, rfl, rfl, rfl⟩
theorem Form.jmpInd (a : Word) : Form.Statement (.jmpInd a) :=
  ⟨rfl, rfl, _, rfl, rfl, rfl⟩
theorem Form.jsr (a : Word) : Form.Statement (.jsr a) :=
  ⟨rfl, rfl, _, rfl, rfl, rfl⟩
theorem Form.rts : Form.Statement (.rts) :=
  ⟨rfl, rfl, _, rfl, rfl, rfl⟩
theorem Form.rti : Form.Statement (.rti) :=
  ⟨rfl, rfl, _, rfl, rfl, rfl⟩
theorem Form.brk : Form.Statement (.brk) :=
  ⟨rfl, rfl, _, rfl, rfl, rfl⟩
theorem Form.nop : Form.Statement (.nop) :=
  ⟨rfl, rfl, _, rfl, rfl, rfl⟩
theorem Form.adcImm (v : Byte) : Form.Statement (.adcImm v) :=
  ⟨rfl, rfl, _, rfl, rfl, rfl⟩
theorem Form.adcZp (a : Byte) : Form.Statement (.adcZp a) :=
  ⟨rfl, rfl, _, rfl, rfl, rfl⟩
theorem Form.adcZpx (a : Byte) : Form.Statement (.adcZpx a) :=
  ⟨rfl, rfl, _, rfl, rfl, rfl⟩
theorem Form.adcAbs (a : Word) : Form.Statement (.adcAbs a) :=
  ⟨rfl, rfl, _, rfl, rfl, rfl⟩
theorem Form.adcAbsx (a : Word) : Form.Statement (.adcAbsx a) :=
  ⟨rfl, rfl, _, rfl, rfl, rfl⟩
theorem Form.adcAbsy (a : Word) : Form.Statement (.adcAbsy a) :=
  ⟨rfl, rfl, _, rfl, rfl, rfl⟩
theorem Form.adcIndx (a : Byte) : Form.Statement (.adcIndx a) :=
  ⟨rfl, rfl, _, rfl, rfl, rfl⟩
theorem Form.adcIndy (a : Byte) : Form.Statement (.adcIndy a) :=
  ⟨rfl, rfl, _, rfl, rfl, rfl⟩
theorem Form.sbcImm (v : Byte) : Form.Statement (.sbcImm v) :=
  ⟨rfl, rfl, _, rfl, rfl, rfl⟩
theorem Form.sbcZp (a : Byte) : Form.Statement (.sbcZp a) :=
  ⟨rfl, rfl, _, rfl, rfl, rfl⟩
theorem Form.sbcZpx (a : Byte) : Form.Statement (.sbcZpx a) :=
  ⟨rfl, rfl, _, rfl, rfl, rfl⟩
theorem Form.sbcAbs (a : Word) : Form.Statement (.sbcAbs a) :=
  ⟨rfl, rfl, _, rfl, rfl, rfl⟩
theorem Form.sbcAbsx (a : Word) : Form.Statement (.sbcAbsx a) :=
  ⟨rfl, rfl, _, rfl, rfl, rfl⟩
theorem Form.sbcAbsy (a : Word) : Form.Statement (.sbcAbsy a) :=
  ⟨rfl, rfl, _, rfl, rfl, rfl⟩
theorem Form.sbcIndx (a : Byte) : Form.Statement (.sbcIndx a) :=
  ⟨rfl, rfl, _, rfl, rfl, rfl⟩
theorem Form.sbcIndy (a : Byte) : Form.Statement (.sbcIndy a) :=
  ⟨rfl, rfl, _, rfl, rfl, rfl⟩

end Sys2Proof.Laws
end

