-- ==== Sys2Proof/Laws/Stack.lean ====
section
/-! SUPPORT. The stack and the status byte with no hooks in the way: what pushing and pulling a word give, and that
unpacking a packed status byte gives the flags back (20_memory R59 to R61, 10_state R34, R35). -/

namespace Sys2Proof.Machine

/-- A word from its bytes, as a number. -/
theorem wordOf_eq_ofNat (hi lo : Byte) : wordOf hi lo = BitVec.ofNat 16 (hi.toNat * 256 + lo.toNat) := by
  have := hi.isLt
  have := lo.isLt
  apply BitVec.eq_of_toNat_eq
  rw [wordOf_toNat, BitVec.toNat_ofNat]
  omega

/-- Bits 5 and 4 of a packed status byte do not reach the flags. -/
@[simp] theorem unpack_pack (f : Flags) (b4 : Bool) : unpack (pack f b4) = f := by
  obtain ⟨n, v, d, i, z, c⟩ := f
  revert n v d i z c b4
  decide

theorem stackSlot_ne_pred (p : Byte) : stackSlot p ≠ stackSlot (p - 1) := by
  rw [Ne, stackSlot_inj]
  revert p
  decide

/-- Pushing a word puts its high byte at SP and its low byte one below, and changes no other byte. -/
theorem pushWord_noHooks (w : Word) {s : State} (hi : s.Inv) (hw : s.params.writeHooks = []) :
    pushWord w s = (s.setMem (pushWord w s).mem).setSP (s.sp - 2) ∧ (pushWord w s).Inv ∧
    (pushWord w s).byteAt (stackSlot s.sp) = hiByte w ∧ (pushWord w s).byteAt (stackSlot (s.sp - 1)) = loByte w ∧
    ∀ a, a ≠ stackSlot s.sp → a ≠ stackSlot (s.sp - 1) → (pushWord w s).byteAt a = s.byteAt a := by
  have e1 := push_noHooks (hiByte w) hw
  have e2 := push_noHooks (loByte w) (s := push (hiByte w) s) (by simpa using hw)
  have hi2 : (push (hiByte w) s).Inv := push_inv _ hi
  have b1 : ∀ a, (push (hiByte w) s).byteAt a = if a = stackSlot s.sp then hiByte w else s.byteAt a := by
    intro a
    rw [e1]
    exact State.setMem_put_byteAt hi _ _ _
  have b2 : ∀ a, (pushWord w s).byteAt a = if a = stackSlot (s.sp - 1) then loByte w else (push (hiByte w) s).byteAt a := by
    intro a
    unfold pushWord
    rw [e2]
    exact State.setMem_put_byteAt hi2 _ _ _
  refine ⟨?_, push_inv _ hi2, ?_, ?_, ?_⟩
  · rw [show s.sp - 2 = s.sp - 1 - 1 by rw [BitVec.sub_sub]; rfl]
    unfold pushWord
    rw [e2, e1]
    rfl
  · rw [b2, if_neg (stackSlot_ne_pred _), b1, if_pos rfl]
  · rw [b2, if_pos rfl]
  · intro a h1 h2
    rw [b2, if_neg h2, b1, if_neg h1]

/-- Pulling a word gives the two bytes above SP. -/
theorem pullWord_noHooks {s : State} (h : s.params.readHooks = []) :
    pullWord s = (wordOf (s.byteAt (stackSlot (s.sp + 2))) (s.byteAt (stackSlot (s.sp + 1))), s.setSP (s.sp + 2)) := by
  unfold pullWord
  rw [pull_noHooks h]
  dsimp only
  rw [pull_noHooks (s := s.setSP (s.sp + 1)) h, State.setSP_sp, show s.sp + 1 + 1 = s.sp + 2 by rw [BitVec.add_assoc]; rfl]
  rfl

end Sys2Proof.Machine
end

