-- ==== Sys2Proof/Machine/Cycles.lean ====
section
/-! DEFINITION. The informative cycle count that each step reports (70_reset_and_hazards R277 to R279, 40 R109). No rule
reads it and State does not hold it. -/

namespace Sys2Proof.Machine

/-- The marks of the table of R277: none, `*` for a page crossing, `+` for a branch. -/
inductive ExtraCycle where
  | never
  | pageCross
  | branch
  deriving DecidableEq, Repr

def cycleRow0 : List (Byte × Nat × ExtraCycle) :=
  [(0x00, 7, .never), (0x01, 6, .never), (0x05, 3, .never), (0x06, 5, .never), (0x08, 3, .never),
   (0x09, 2, .never), (0x0A, 2, .never), (0x0D, 4, .never), (0x0E, 6, .never)]

def cycleRow1 : List (Byte × Nat × ExtraCycle) :=
  [(0x10, 2, .branch), (0x11, 5, .pageCross), (0x15, 4, .never), (0x16, 6, .never), (0x18, 2, .never),
   (0x19, 4, .pageCross), (0x1D, 4, .pageCross), (0x1E, 7, .never)]

def cycleRow2 : List (Byte × Nat × ExtraCycle) :=
  [(0x20, 6, .never), (0x21, 6, .never), (0x24, 3, .never), (0x25, 3, .never), (0x26, 5, .never),
   (0x28, 4, .never), (0x29, 2, .never), (0x2A, 2, .never), (0x2C, 4, .never), (0x2D, 4, .never),
   (0x2E, 6, .never)]

def cycleRow3 : List (Byte × Nat × ExtraCycle) :=
  [(0x30, 2, .branch), (0x31, 5, .pageCross), (0x35, 4, .never), (0x36, 6, .never), (0x38, 2, .never),
   (0x39, 4, .pageCross), (0x3D, 4, .pageCross), (0x3E, 7, .never)]

def cycleRow4 : List (Byte × Nat × ExtraCycle) :=
  [(0x40, 6, .never), (0x41, 6, .never), (0x45, 3, .never), (0x46, 5, .never), (0x48, 3, .never),
   (0x49, 2, .never), (0x4A, 2, .never), (0x4C, 3, .never), (0x4D, 4, .never), (0x4E, 6, .never)]

def cycleRow5 : List (Byte × Nat × ExtraCycle) :=
  [(0x50, 2, .branch), (0x51, 5, .pageCross), (0x55, 4, .never), (0x56, 6, .never), (0x58, 2, .never),
   (0x59, 4, .pageCross), (0x5D, 4, .pageCross), (0x5E, 7, .never)]

def cycleRow6 : List (Byte × Nat × ExtraCycle) :=
  [(0x60, 6, .never), (0x61, 6, .never), (0x65, 3, .never), (0x66, 5, .never), (0x68, 4, .never),
   (0x69, 2, .never), (0x6A, 2, .never), (0x6C, 5, .never), (0x6D, 4, .never), (0x6E, 6, .never)]

def cycleRow7 : List (Byte × Nat × ExtraCycle) :=
  [(0x70, 2, .branch), (0x71, 5, .pageCross), (0x75, 4, .never), (0x76, 6, .never), (0x78, 2, .never),
   (0x79, 4, .pageCross), (0x7D, 4, .pageCross), (0x7E, 7, .never)]

def cycleRow8 : List (Byte × Nat × ExtraCycle) :=
  [(0x81, 6, .never), (0x84, 3, .never), (0x85, 3, .never), (0x86, 3, .never), (0x88, 2, .never),
   (0x8A, 2, .never), (0x8C, 4, .never), (0x8D, 4, .never), (0x8E, 4, .never)]

def cycleRow9 : List (Byte × Nat × ExtraCycle) :=
  [(0x90, 2, .branch), (0x91, 6, .never), (0x94, 4, .never), (0x95, 4, .never), (0x96, 4, .never),
   (0x98, 2, .never), (0x99, 5, .never), (0x9A, 2, .never), (0x9D, 5, .never)]

def cycleRowA : List (Byte × Nat × ExtraCycle) :=
  [(0xA0, 2, .never), (0xA1, 6, .never), (0xA2, 2, .never), (0xA4, 3, .never), (0xA5, 3, .never),
   (0xA6, 3, .never), (0xA8, 2, .never), (0xA9, 2, .never), (0xAA, 2, .never), (0xAC, 4, .never),
   (0xAD, 4, .never), (0xAE, 4, .never)]

def cycleRowB : List (Byte × Nat × ExtraCycle) :=
  [(0xB0, 2, .branch), (0xB1, 5, .pageCross), (0xB4, 4, .never), (0xB5, 4, .never), (0xB6, 4, .never),
   (0xB8, 2, .never), (0xB9, 4, .pageCross), (0xBA, 2, .never), (0xBC, 4, .pageCross), (0xBD, 4, .pageCross),
   (0xBE, 4, .pageCross)]

def cycleRowC : List (Byte × Nat × ExtraCycle) :=
  [(0xC0, 2, .never), (0xC1, 6, .never), (0xC4, 3, .never), (0xC5, 3, .never), (0xC6, 5, .never),
   (0xC8, 2, .never), (0xC9, 2, .never), (0xCA, 2, .never), (0xCC, 4, .never), (0xCD, 4, .never),
   (0xCE, 6, .never)]

def cycleRowD : List (Byte × Nat × ExtraCycle) :=
  [(0xD0, 2, .branch), (0xD1, 5, .pageCross), (0xD5, 4, .never), (0xD6, 6, .never), (0xD8, 2, .never),
   (0xD9, 4, .pageCross), (0xDD, 4, .pageCross), (0xDE, 7, .never)]

def cycleRowE : List (Byte × Nat × ExtraCycle) :=
  [(0xE0, 2, .never), (0xE1, 6, .never), (0xE4, 3, .never), (0xE5, 3, .never), (0xE6, 5, .never),
   (0xE8, 2, .never), (0xE9, 2, .never), (0xEA, 2, .never), (0xEC, 4, .never), (0xED, 4, .never),
   (0xEE, 6, .never)]

def cycleRowF : List (Byte × Nat × ExtraCycle) :=
  [(0xF0, 2, .branch), (0xF1, 5, .pageCross), (0xF5, 4, .never), (0xF6, 6, .never), (0xF8, 2, .never),
   (0xF9, 4, .pageCross), (0xFD, 4, .pageCross), (0xFE, 7, .never)]

/-- The table of R277, by opcode byte. -/
def cycleTable : List (Byte × Nat × ExtraCycle) :=
  cycleRow0 ++ cycleRow1 ++ cycleRow2 ++ cycleRow3 ++ cycleRow4 ++ cycleRow5 ++ cycleRow6 ++ cycleRow7 ++
  cycleRow8 ++ cycleRow9 ++ cycleRowA ++ cycleRowB ++ cycleRowC ++ cycleRowD ++ cycleRowE ++ cycleRowF

/-- Whether two addresses lie in different pages (41 R129). -/
def pagesDiffer (a b : Word) : Bool := hiByte a != hiByte b

/-- The base address that a page crossing is measured from: the operand word, or the pointer of `indy` (R277). -/
def baseAddr : AddrMode → State → Word
  | .abs a, _ | .absx a, _ | .absy a, _ => a
  | .indy a, s => (read16ZP a s).1
  | m, s => (effAddr m s).1

/-- Whether the effective address lies in another page than the base (R277). -/
def crossesPage (m : Mode) (s : State) : Bool :=
  match m with
  | .mem am => pagesDiffer (baseAddr am s) (effAddr am s).1
  | _ => false

/-- The extra cycles of a branch: 1 when taken, 1 more when the target is in another page than `PC_next` (R277). -/
def branchExtra (i : Instr) (s : State) : Nat :=
  match i.mode, cond s.p i.mnemonic with
  | .rel off, some true => if pagesDiffer (s.pc + 2) (branchTarget s.pc off) then 2 else 1
  | _, _ => 0

/-- The cycles of an instruction in the state it executes in (R277 to R279). -/
def instrCycles (i : Instr) (s : State) : Nat :=
  match cycleTable.lookup i.opcode with
  | some (n, .never) => n
  | some (n, .pageCross) => if crossesPage i.mode s then n + 1 else n
  | some (n, .branch) => n + branchExtra i s
  | none => 0

/-- The cycles a step reports: those of its instruction, and 0 for an illegal opcode byte or where there is no step
(R277). -/
def stepCycles (s : State) : Nat :=
  match terminal s with
  | some _ => 0
  | none =>
    match fetchDecode s with
    | .instr i s' => instrCycles i s'
    | .illegal _ _ => 0

/-- The NMI service counts 7, where it is taken (R277). -/
def serviceCycles (s : State) : Nat :=
  match terminal s with
  | some _ => 0
  | none => if s.nmiPending then 7 else 0

/-- A step together with the count it reports (40 R109). -/
def stepWithCycles (s : State) : Host.Outcome State Fault Refusal × Nat := (step s, stepCycles s)

end Sys2Proof.Machine
end

