-- ==== Sys2Proof/Tests/Slice0.lean ====
section
/-! SUPPORT. Tests: the well-formedness check, the decoder on words of the encoding table, one step per row picked from
95_test_vectors, and a witness for every statement that has hypotheses. Expected values are the spec's. -/

namespace Sys2Proof.Tests

open Sys2Proof.Machine

/-- The default start state of 95_test_vectors' conventions. -/
def v0 : State := { State.reset with sp := 0xFF, pc := 0x8000 }

/-- Places bytes at addresses of memory. -/
def place (cells : List (Word × Byte)) (s : State) : State := cells.foldl (fun s q => loadItem (.byte q.1 q.2) s) s

/-- Places an instruction's bytes at PC. -/
def placeCode (bs : List Byte) (s : State) : State :=
  place (bs.zipIdx.map fun q => (s.pc + BitVec.ofNat 16 q.2, q.1)) s

/-- One step from a start state with memory bytes and code placed; what `f` reads of the next state. -/
def run {α : Type} (cells : List (Word × Byte)) (code : List Byte) (s : State) (f : State → α) : Option α :=
  match step (placeCode code (place cells s)) with
  | .next t => some (f t)
  | _ => none

/-! ### Well-formedness: an ill-formed pair is refused (30_encoding R76, R88; 95_test_vectors 2.9) -/

theorem test_wf_sta_imm : wellFormedPair .STA (.imm 5) = false := by decide
theorem test_wf_sty_absx : wellFormedPair .STY (.mem (.absx 0x1234)) = false := by decide
theorem test_wf_ldx_zpx : wellFormedPair .LDX (.mem (.zpx 0x10)) = false := by decide
theorem test_wf_bit_imm : wellFormedPair .BIT (.imm 1) = false := by decide
theorem test_wf_jmp_indx : wellFormedPair .JMP (.mem (.indx 0x10)) = false := by decide
theorem test_wf_lda_zpy : wellFormedPair .LDA (.mem (.zpy 0x10)) = false := by decide
theorem test_wf_inc_acc : wellFormedPair .INC .acc = false := by decide
theorem test_wf_no_instruction : instrOf? .STA (.imm 5) = none := by decide
theorem test_wf_zpy : wellFormedPair .LDX (.mem (.zpy 0x10)) = true := by decide

/-! ### Decoding: words of the encoding table (30_encoding R72, R74, R76) -/

/-- Each instruction of the family from its word: opcode byte of R76, operand low byte 5A, high byte C3 (R72, R74), and a
byte after it. Loads, stores and transfers (43). -/
theorem test_decode_loadstore :
    decode [0xA9, 0x5A, 0x77] = .instr (.ldaImm 0x5A) [0x77] ∧
    decode [0xA5, 0x5A, 0x77] = .instr (.ldaZp 0x5A) [0x77] ∧
    decode [0xB5, 0x5A, 0x77] = .instr (.ldaZpx 0x5A) [0x77] ∧
    decode [0xAD, 0x5A, 0xC3, 0x77] = .instr (.ldaAbs 0xC35A) [0x77] ∧
    decode [0xBD, 0x5A, 0xC3, 0x77] = .instr (.ldaAbsx 0xC35A) [0x77] ∧
    decode [0xB9, 0x5A, 0xC3, 0x77] = .instr (.ldaAbsy 0xC35A) [0x77] ∧
    decode [0xA1, 0x5A, 0x77] = .instr (.ldaIndx 0x5A) [0x77] ∧
    decode [0xB1, 0x5A, 0x77] = .instr (.ldaIndy 0x5A) [0x77] ∧
    decode [0xA2, 0x5A, 0x77] = .instr (.ldxImm 0x5A) [0x77] ∧
    decode [0xA6, 0x5A, 0x77] = .instr (.ldxZp 0x5A) [0x77] ∧
    decode [0xB6, 0x5A, 0x77] = .instr (.ldxZpy 0x5A) [0x77] ∧
    decode [0xAE, 0x5A, 0xC3, 0x77] = .instr (.ldxAbs 0xC35A) [0x77] ∧
    decode [0xBE, 0x5A, 0xC3, 0x77] = .instr (.ldxAbsy 0xC35A) [0x77] ∧
    decode [0xA0, 0x5A, 0x77] = .instr (.ldyImm 0x5A) [0x77] ∧
    decode [0xA4, 0x5A, 0x77] = .instr (.ldyZp 0x5A) [0x77] ∧
    decode [0xB4, 0x5A, 0x77] = .instr (.ldyZpx 0x5A) [0x77] ∧
    decode [0xAC, 0x5A, 0xC3, 0x77] = .instr (.ldyAbs 0xC35A) [0x77] ∧
    decode [0xBC, 0x5A, 0xC3, 0x77] = .instr (.ldyAbsx 0xC35A) [0x77] ∧
    decode [0x85, 0x5A, 0x77] = .instr (.staZp 0x5A) [0x77] ∧
    decode [0x95, 0x5A, 0x77] = .instr (.staZpx 0x5A) [0x77] ∧
    decode [0x8D, 0x5A, 0xC3, 0x77] = .instr (.staAbs 0xC35A) [0x77] ∧
    decode [0x9D, 0x5A, 0xC3, 0x77] = .instr (.staAbsx 0xC35A) [0x77] ∧
    decode [0x99, 0x5A, 0xC3, 0x77] = .instr (.staAbsy 0xC35A) [0x77] ∧
    decode [0x81, 0x5A, 0x77] = .instr (.staIndx 0x5A) [0x77] ∧
    decode [0x91, 0x5A, 0x77] = .instr (.staIndy 0x5A) [0x77] ∧
    decode [0x86, 0x5A, 0x77] = .instr (.stxZp 0x5A) [0x77] ∧
    decode [0x96, 0x5A, 0x77] = .instr (.stxZpy 0x5A) [0x77] ∧
    decode [0x8E, 0x5A, 0xC3, 0x77] = .instr (.stxAbs 0xC35A) [0x77] ∧
    decode [0x84, 0x5A, 0x77] = .instr (.styZp 0x5A) [0x77] ∧
    decode [0x94, 0x5A, 0x77] = .instr (.styZpx 0x5A) [0x77] ∧
    decode [0x8C, 0x5A, 0xC3, 0x77] = .instr (.styAbs 0xC35A) [0x77] ∧
    decode [0xAA, 0x77] = .instr (.tax) [0x77] ∧
    decode [0xA8, 0x77] = .instr (.tay) [0x77] ∧
    decode [0x8A, 0x77] = .instr (.txa) [0x77] ∧
    decode [0x98, 0x77] = .instr (.tya) [0x77] ∧
    decode [0xBA, 0x77] = .instr (.tsx) [0x77] ∧
    decode [0x9A, 0x77] = .instr (.txs) [0x77] :=
  ⟨rfl, rfl, rfl, rfl, rfl, rfl, rfl, rfl, rfl, rfl, rfl, rfl, rfl, rfl, rfl, rfl, rfl, rfl, rfl, rfl, rfl, rfl, rfl, rfl,
   rfl, rfl, rfl, rfl, rfl, rfl, rfl, rfl, rfl, rfl, rfl, rfl, rfl⟩

/-- Each instruction of the family from its word: opcode byte of R76, operand low byte 5A, high byte C3 (R72, R74), and a
byte after it. Increments, decrements, shifts and rotates (44). -/
theorem test_decode_incdecshift :
    decode [0xE6, 0x5A, 0x77] = .instr (.incZp 0x5A) [0x77] ∧
    decode [0xF6, 0x5A, 0x77] = .instr (.incZpx 0x5A) [0x77] ∧
    decode [0xEE, 0x5A, 0xC3, 0x77] = .instr (.incAbs 0xC35A) [0x77] ∧
    decode [0xFE, 0x5A, 0xC3, 0x77] = .instr (.incAbsx 0xC35A) [0x77] ∧
    decode [0xC6, 0x5A, 0x77] = .instr (.decZp 0x5A) [0x77] ∧
    decode [0xD6, 0x5A, 0x77] = .instr (.decZpx 0x5A) [0x77] ∧
    decode [0xCE, 0x5A, 0xC3, 0x77] = .instr (.decAbs 0xC35A) [0x77] ∧
    decode [0xDE, 0x5A, 0xC3, 0x77] = .instr (.decAbsx 0xC35A) [0x77] ∧
    decode [0xE8, 0x77] = .instr (.inx) [0x77] ∧
    decode [0xC8, 0x77] = .instr (.iny) [0x77] ∧
    decode [0xCA, 0x77] = .instr (.dex) [0x77] ∧
    decode [0x88, 0x77] = .instr (.dey) [0x77] ∧
    decode [0x0A, 0x77] = .instr (.aslAcc) [0x77] ∧
    decode [0x06, 0x5A, 0x77] = .instr (.aslZp 0x5A) [0x77] ∧
    decode [0x16, 0x5A, 0x77] = .instr (.aslZpx 0x5A) [0x77] ∧
    decode [0x0E, 0x5A, 0xC3, 0x77] = .instr (.aslAbs 0xC35A) [0x77] ∧
    decode [0x1E, 0x5A, 0xC3, 0x77] = .instr (.aslAbsx 0xC35A) [0x77] ∧
    decode [0x4A, 0x77] = .instr (.lsrAcc) [0x77] ∧
    decode [0x46, 0x5A, 0x77] = .instr (.lsrZp 0x5A) [0x77] ∧
    decode [0x56, 0x5A, 0x77] = .instr (.lsrZpx 0x5A) [0x77] ∧
    decode [0x4E, 0x5A, 0xC3, 0x77] = .instr (.lsrAbs 0xC35A) [0x77] ∧
    decode [0x5E, 0x5A, 0xC3, 0x77] = .instr (.lsrAbsx 0xC35A) [0x77] ∧
    decode [0x2A, 0x77] = .instr (.rolAcc) [0x77] ∧
    decode [0x26, 0x5A, 0x77] = .instr (.rolZp 0x5A) [0x77] ∧
    decode [0x36, 0x5A, 0x77] = .instr (.rolZpx 0x5A) [0x77] ∧
    decode [0x2E, 0x5A, 0xC3, 0x77] = .instr (.rolAbs 0xC35A) [0x77] ∧
    decode [0x3E, 0x5A, 0xC3, 0x77] = .instr (.rolAbsx 0xC35A) [0x77] ∧
    decode [0x6A, 0x77] = .instr (.rorAcc) [0x77] ∧
    decode [0x66, 0x5A, 0x77] = .instr (.rorZp 0x5A) [0x77] ∧
    decode [0x76, 0x5A, 0x77] = .instr (.rorZpx 0x5A) [0x77] ∧
    decode [0x6E, 0x5A, 0xC3, 0x77] = .instr (.rorAbs 0xC35A) [0x77] ∧
    decode [0x7E, 0x5A, 0xC3, 0x77] = .instr (.rorAbsx 0xC35A) [0x77] :=
  ⟨rfl, rfl, rfl, rfl, rfl, rfl, rfl, rfl, rfl, rfl, rfl, rfl, rfl, rfl, rfl, rfl, rfl, rfl, rfl, rfl, rfl, rfl, rfl, rfl,
   rfl, rfl, rfl, rfl, rfl, rfl, rfl, rfl⟩

/-- Each instruction of the family from its word: opcode byte of R76, operand low byte 5A, high byte C3 (R72, R74), and a
byte after it. Logic, compares and bit (45). -/
theorem test_decode_logic :
    decode [0x29, 0x5A, 0x77] = .instr (.andImm 0x5A) [0x77] ∧
    decode [0x25, 0x5A, 0x77] = .instr (.andZp 0x5A) [0x77] ∧
    decode [0x35, 0x5A, 0x77] = .instr (.andZpx 0x5A) [0x77] ∧
    decode [0x2D, 0x5A, 0xC3, 0x77] = .instr (.andAbs 0xC35A) [0x77] ∧
    decode [0x3D, 0x5A, 0xC3, 0x77] = .instr (.andAbsx 0xC35A) [0x77] ∧
    decode [0x39, 0x5A, 0xC3, 0x77] = .instr (.andAbsy 0xC35A) [0x77] ∧
    decode [0x21, 0x5A, 0x77] = .instr (.andIndx 0x5A) [0x77] ∧
    decode [0x31, 0x5A, 0x77] = .instr (.andIndy 0x5A) [0x77] ∧
    decode [0x09, 0x5A, 0x77] = .instr (.oraImm 0x5A) [0x77] ∧
    decode [0x05, 0x5A, 0x77] = .instr (.oraZp 0x5A) [0x77] ∧
    decode [0x15, 0x5A, 0x77] = .instr (.oraZpx 0x5A) [0x77] ∧
    decode [0x0D, 0x5A, 0xC3, 0x77] = .instr (.oraAbs 0xC35A) [0x77] ∧
    decode [0x1D, 0x5A, 0xC3, 0x77] = .instr (.oraAbsx 0xC35A) [0x77] ∧
    decode [0x19, 0x5A, 0xC3, 0x77] = .instr (.oraAbsy 0xC35A) [0x77] ∧
    decode [0x01, 0x5A, 0x77] = .instr (.oraIndx 0x5A) [0x77] ∧
    decode [0x11, 0x5A, 0x77] = .instr (.oraIndy 0x5A) [0x77] ∧
    decode [0x49, 0x5A, 0x77] = .instr (.eorImm 0x5A) [0x77] ∧
    decode [0x45, 0x5A, 0x77] = .instr (.eorZp 0x5A) [0x77] ∧
    decode [0x55, 0x5A, 0x77] = .instr (.eorZpx 0x5A) [0x77] ∧
    decode [0x4D, 0x5A, 0xC3, 0x77] = .instr (.eorAbs 0xC35A) [0x77] ∧
    decode [0x5D, 0x5A, 0xC3, 0x77] = .instr (.eorAbsx 0xC35A) [0x77] ∧
    decode [0x59, 0x5A, 0xC3, 0x77] = .instr (.eorAbsy 0xC35A) [0x77] ∧
    decode [0x41, 0x5A, 0x77] = .instr (.eorIndx 0x5A) [0x77] ∧
    decode [0x51, 0x5A, 0x77] = .instr (.eorIndy 0x5A) [0x77] ∧
    decode [0xC9, 0x5A, 0x77] = .instr (.cmpImm 0x5A) [0x77] ∧
    decode [0xC5, 0x5A, 0x77] = .instr (.cmpZp 0x5A) [0x77] ∧
    decode [0xD5, 0x5A, 0x77] = .instr (.cmpZpx 0x5A) [0x77] ∧
    decode [0xCD, 0x5A, 0xC3, 0x77] = .instr (.cmpAbs 0xC35A) [0x77] ∧
    decode [0xDD, 0x5A, 0xC3, 0x77] = .instr (.cmpAbsx 0xC35A) [0x77] ∧
    decode [0xD9, 0x5A, 0xC3, 0x77] = .instr (.cmpAbsy 0xC35A) [0x77] ∧
    decode [0xC1, 0x5A, 0x77] = .instr (.cmpIndx 0x5A) [0x77] ∧
    decode [0xD1, 0x5A, 0x77] = .instr (.cmpIndy 0x5A) [0x77] ∧
    decode [0xE0, 0x5A, 0x77] = .instr (.cpxImm 0x5A) [0x77] ∧
    decode [0xE4, 0x5A, 0x77] = .instr (.cpxZp 0x5A) [0x77] ∧
    decode [0xEC, 0x5A, 0xC3, 0x77] = .instr (.cpxAbs 0xC35A) [0x77] ∧
    decode [0xC0, 0x5A, 0x77] = .instr (.cpyImm 0x5A) [0x77] ∧
    decode [0xC4, 0x5A, 0x77] = .instr (.cpyZp 0x5A) [0x77] ∧
    decode [0xCC, 0x5A, 0xC3, 0x77] = .instr (.cpyAbs 0xC35A) [0x77] ∧
    decode [0x24, 0x5A, 0x77] = .instr (.bitZp 0x5A) [0x77] ∧
    decode [0x2C, 0x5A, 0xC3, 0x77] = .instr (.bitAbs 0xC35A) [0x77] :=
  ⟨rfl, rfl, rfl, rfl, rfl, rfl, rfl, rfl, rfl, rfl, rfl, rfl, rfl, rfl, rfl, rfl, rfl, rfl, rfl, rfl, rfl, rfl, rfl, rfl,
   rfl, rfl, rfl, rfl, rfl, rfl, rfl, rfl, rfl, rfl, rfl, rfl, rfl, rfl, rfl, rfl⟩

/-- Each instruction of the family from its word: opcode byte of R76, operand low byte 5A, high byte C3 (R72, R74), and a
byte after it. Branches and flags (46). -/
theorem test_decode_branchflag :
    decode [0x90, 0x5A, 0x77] = .instr (.bcc 0x5A) [0x77] ∧
    decode [0xB0, 0x5A, 0x77] = .instr (.bcs 0x5A) [0x77] ∧
    decode [0xF0, 0x5A, 0x77] = .instr (.beq 0x5A) [0x77] ∧
    decode [0xD0, 0x5A, 0x77] = .instr (.bne 0x5A) [0x77] ∧
    decode [0x30, 0x5A, 0x77] = .instr (.bmi 0x5A) [0x77] ∧
    decode [0x10, 0x5A, 0x77] = .instr (.bpl 0x5A) [0x77] ∧
    decode [0x50, 0x5A, 0x77] = .instr (.bvc 0x5A) [0x77] ∧
    decode [0x70, 0x5A, 0x77] = .instr (.bvs 0x5A) [0x77] ∧
    decode [0x18, 0x77] = .instr (.clc) [0x77] ∧
    decode [0x38, 0x77] = .instr (.sec) [0x77] ∧
    decode [0x58, 0x77] = .instr (.cli) [0x77] ∧
    decode [0x78, 0x77] = .instr (.sei) [0x77] ∧
    decode [0xD8, 0x77] = .instr (.cld) [0x77] ∧
    decode [0xF8, 0x77] = .instr (.sed) [0x77] ∧
    decode [0xB8, 0x77] = .instr (.clv) [0x77] :=
  ⟨rfl, rfl, rfl, rfl, rfl, rfl, rfl, rfl, rfl, rfl, rfl, rfl, rfl, rfl, rfl⟩

/-- Each instruction of the family from its word: opcode byte of R76, operand low byte 5A, high byte C3 (R72, R74), and a
byte after it. Stack and control (47). -/
theorem test_decode_stackcontrol :
    decode [0x48, 0x77] = .instr (.pha) [0x77] ∧
    decode [0x68, 0x77] = .instr (.pla) [0x77] ∧
    decode [0x08, 0x77] = .instr (.php) [0x77] ∧
    decode [0x28, 0x77] = .instr (.plp) [0x77] ∧
    decode [0x4C, 0x5A, 0xC3, 0x77] = .instr (.jmpAbs 0xC35A) [0x77] ∧
    decode [0x6C, 0x5A, 0xC3, 0x77] = .instr (.jmpInd 0xC35A) [0x77] ∧
    decode [0x20, 0x5A, 0xC3, 0x77] = .instr (.jsr 0xC35A) [0x77] ∧
    decode [0x60, 0x77] = .instr (.rts) [0x77] ∧
    decode [0x40, 0x77] = .instr (.rti) [0x77] ∧
    decode [0x00, 0x77] = .instr (.brk) [0x77] ∧
    decode [0xEA, 0x77] = .instr (.nop) [0x77] :=
  ⟨rfl, rfl, rfl, rfl, rfl, rfl, rfl, rfl, rfl, rfl, rfl⟩

/-- Each instruction of the family from its word: opcode byte of R76, operand low byte 5A, high byte C3 (R72, R74), and a
byte after it. Arithmetic (48). -/
theorem test_decode_arithmetic :
    decode [0x69, 0x5A, 0x77] = .instr (.adcImm 0x5A) [0x77] ∧
    decode [0x65, 0x5A, 0x77] = .instr (.adcZp 0x5A) [0x77] ∧
    decode [0x75, 0x5A, 0x77] = .instr (.adcZpx 0x5A) [0x77] ∧
    decode [0x6D, 0x5A, 0xC3, 0x77] = .instr (.adcAbs 0xC35A) [0x77] ∧
    decode [0x7D, 0x5A, 0xC3, 0x77] = .instr (.adcAbsx 0xC35A) [0x77] ∧
    decode [0x79, 0x5A, 0xC3, 0x77] = .instr (.adcAbsy 0xC35A) [0x77] ∧
    decode [0x61, 0x5A, 0x77] = .instr (.adcIndx 0x5A) [0x77] ∧
    decode [0x71, 0x5A, 0x77] = .instr (.adcIndy 0x5A) [0x77] ∧
    decode [0xE9, 0x5A, 0x77] = .instr (.sbcImm 0x5A) [0x77] ∧
    decode [0xE5, 0x5A, 0x77] = .instr (.sbcZp 0x5A) [0x77] ∧
    decode [0xF5, 0x5A, 0x77] = .instr (.sbcZpx 0x5A) [0x77] ∧
    decode [0xED, 0x5A, 0xC3, 0x77] = .instr (.sbcAbs 0xC35A) [0x77] ∧
    decode [0xFD, 0x5A, 0xC3, 0x77] = .instr (.sbcAbsx 0xC35A) [0x77] ∧
    decode [0xF9, 0x5A, 0xC3, 0x77] = .instr (.sbcAbsy 0xC35A) [0x77] ∧
    decode [0xE1, 0x5A, 0x77] = .instr (.sbcIndx 0x5A) [0x77] ∧
    decode [0xF1, 0x5A, 0x77] = .instr (.sbcIndy 0x5A) [0x77] :=
  ⟨rfl, rfl, rfl, rfl, rfl, rfl, rfl, rfl, rfl, rfl, rfl, rfl, rfl, rfl, rfl, rfl⟩

/-- One word of each family, bit by bit (R76: A9 is 1010_1001, and so on). -/
theorem test_decode_bits :
    decode [0b10101001, 0b01000010] = .instr (.ldaImm 0x42) [] ∧
    decode [0b11011110, 0b11100101, 0b00000010] = .instr (.decAbsx 0x02E5) [] ∧
    decode [0b00100100, 0b01000000] = .instr (.bitZp 0x40) [] ∧
    decode [0b10010000, 0b00001110] = .instr (.bcc 0x0E) [] ∧
    decode [0b01101100, 0b11111111, 0b00000010] = .instr (.jmpInd 0x02FF) [] ∧
    decode [0b11110001, 0b10000001] = .instr (.sbcIndy 0x81) [] := ⟨rfl, rfl, rfl, rfl, rfl, rfl⟩

theorem test_decode_illegal : decode [0x02] = .illegal 0x02 ∧ decode [0xFF, 0, 0] = .illegal 0xFF := ⟨rfl, rfl⟩
theorem test_decode_truncated : decode [] = .truncated ∧ decode [0xAD, 0x34] = .truncated := ⟨rfl, rfl⟩

/-- `LDA $C35A` as a table word: bit 0 is the least significant bit of the opcode byte. -/
theorem test_table_word : decodeTableWord 24 0xC35AAD = some (.ldaAbs 0xC35A) ∧ decodeTableWord 8 0xFFFFEA = some .nop :=
  ⟨rfl, rfl⟩

/-- The step fetches the word placed for it, as the first instruction after reset. -/
theorem test_fetch_word :
    step (State.reset.withFetchWord 16 0x42A9) = exec (.ldaImm 0x42) { State.reset.withFetchWord 16 0x42A9 with started := true } ∧
    (match step (State.reset.withFetchWord 16 0x42A9) with
      | .next t => some (t.a, t.pc)
      | _ => none) = some (0x42, 0x0002) := ⟨rfl, rfl⟩

/-! ### Faults, NMI, reset, decoded interface, cycles (95_test_vectors 2.7 to 2.11) -/

theorem test_illegal_02 : run [] [0x02] v0 (fun t => (t.fault, t.pc, t.a)) =
    some (some (.illegalOpcode 0x02 0x8000), 0x8000, 0x00) := by decide
theorem test_illegal_ff : run [] [0xFF, 0x00, 0x00] { v0 with a := 0x11 } (fun t => (t.fault, t.pc, t.a)) =
    some (some (.illegalOpcode 0xFF 0x8000), 0x8000, 0x11) := by decide

/-- The start state of section 2.8. -/
def vNmi : State := place [(0xFFFA, 0x00), (0xFFFB, 0x90)] { v0 with pc := 0x8123 }

theorem test_nmi_service :
    (let t := handleInterrupts (triggerNmi { vNmi with p := { Flags.reset with n := true, d := true, c := true } })
     ([t.pc.toNat, t.sp.toNat], t.p, t.nmiPending, [t.byteAt 0x01FF, t.byteAt 0x01FE, t.byteAt 0x01FD])) =
      ([0x9000, 0xFC], { Flags.reset with n := true, d := true, i := true, c := true }, false, [0x81, 0x23, 0xA9]) := by decide
theorem test_nmi_latch_clear : handleInterrupts vNmi = vNmi := by decide
theorem test_nmi_masked_by_nothing :
    (let t := handleInterrupts (triggerNmi { vNmi with p := { Flags.reset with i := true } })
     (t.pc, t.sp, t.p.i, t.byteAt 0x01FD)) = (0x9000, 0xFC, true, 0x24) := by decide
theorem test_nmi_halted : handleInterrupts (triggerNmi { vNmi with halted := true }) = { vNmi with halted := true, nmiPending := true } := by
  decide
theorem test_nmi_wrap :
    (let t := handleInterrupts (triggerNmi { vNmi with sp := 0x01 })
     (t.sp, t.byteAt 0x0101, t.byteAt 0x0100, t.byteAt 0x01FF)) = (0xFE, 0x81, 0x23, 0x20) := by decide

theorem test_reset :
    resetCore (place [(0x0200, 0x77)] { State.reset with
      a := 0x12, x := 0x34, y := 0x56, sp := 0xF0, pc := 0x1234, halted := true, nmiPending := true
      fault := some (.illegalOpcode 0x02 0x1234) }) = place [(0x0200, 0x77)] State.reset := by decide

/-- The label and constant tables of section 2.9. -/
def vSymbols : Symbols where
  labels := [("ZP", 0x0010), ("HI", 0x1234), ("FF", 0x00FF)]
  consts := [("K", 0x1234)]

/-- The start state of section 2.9. -/
def vDecoded : State := { v0 with x := 0x01, y := 0x02 }

theorem test_resolve_direct :
    resolvePair vSymbols .LDA (.direct "ZP" none) = .instr (.ldaZp 0x10) ∧
    resolvePair vSymbols .LDA (.direct "HI" none) = .instr (.ldaAbs 0x1234) ∧
    resolvePair vSymbols .LDA (.direct "ZP" (some 0xF0)) = .instr (.ldaAbs 0x0100) ∧
    resolvePair vSymbols .JMP (.direct "ZP" none) = .instr (.jmpAbs 0x0010) ∧
    resolvePair vSymbols .BNE (.direct "HI" none) = .branch .BNE 0x1234 := by decide
theorem test_resolve_indexed :
    resolvePair vSymbols .LDA (.directIndexedX "FF" none) = .instr (.ldaZpx 0xFF) ∧
    resolvePair vSymbols .LDA (.directIndexedX "HI" none) = .instr (.ldaAbsx 0x1234) ∧
    resolvePair vSymbols .LDA (.directIndexedY "FF" none) = .instr (.ldaAbsy 0x00FF) ∧
    resolvePair vSymbols .LDX (.directIndexedY "FF" none) = .instr (.ldxZpy 0xFF) ∧
    resolvePair vSymbols .LDA (.indirectIndexedY "ZP") = .instr (.ldaIndy 0x10) ∧
    resolvePair vSymbols .JMP (.indirectAbsolute "HI") = .instr (.jmpInd 0x1234) := by decide
theorem test_resolve_immediate :
    resolvePair vSymbols .LDA (.immediate16Low (.label "HI")) = .instr (.ldaImm 0x34) ∧
    resolvePair vSymbols .LDA (.immediate16High (.label "HI")) = .instr (.ldaImm 0x12) ∧
    resolvePair vSymbols .LDA (.constantReferenceUpper "K") = .instr (.ldaImm 0x12) ∧
    resolvePair vSymbols .LDA (.constantReferenceLower "K") = .instr (.ldaImm 0x34) ∧
    resolvePair vSymbols .LDA (.constantReference "K") = .outOfRange ∧
    resolvePair vSymbols .ASL .none = .instr .aslAcc ∧ resolvePair vSymbols .NOP .none = .instr .nop := by decide
theorem test_resolve_unsupported :
    resolvePair vSymbols .STA (.immediateByte 5) = .unsupported ∧
    resolvePair vSymbols .STY (.directIndexedX "HI" none) = .unsupported ∧
    resolvePair vSymbols .LDX (.directIndexedX "ZP" none) = .unsupported ∧
    resolvePair vSymbols .LDA .unrecognized = .unsupported := by decide
/-- An empty cell comes before the range (R84, R88, 40 R110). -/
theorem test_resolve_unsupported_first :
    resolvePair { vSymbols with labels := [("BIG", 70000)] } .LDA (.indirectAbsolute "BIG") = .unsupported ∧
    resolvePair { vSymbols with labels := [("BIG", 70000)] } .JMP (.indirectAbsolute "BIG") = .outOfRange ∧
    resolvePair vSymbols .STA (.immediateByte 300) = .unsupported ∧
    resolvePair vSymbols .LDA (.immediateByte 300) = .outOfRange := by decide
theorem test_sizes :
    [symSize .LDA (.direct "ZP" none) true, symSize .LDA (.direct "HI" none) false, symSize .JMP (.direct "ZP" none) true,
     symSize .BNE (.direct "HI" none) false, symSize .LDA (.directIndexedY "FF" none) true,
     symSize .LDX (.directIndexedY "FF" none) true, symSize .ASL .none false, symSize .STA (.immediateByte 5) false,
     symSize .STY (.directIndexedX "HI" none) false, sizeCalc vSymbols .LDA (.direct "FWD" none),
     symSize .LDA .unrecognized false] = [2, 3, 3, 2, 3, 2, 1, 2, 3, 3, 1] := by decide
theorem test_decoded_unresolved :
    executeDecoded vSymbols .LDA (.direct "FWD" none) vDecoded =
      .next { vDecoded with fault := some (.unresolvedLabel "FWD"), started := true } := rfl
theorem test_decoded_lda :
    executeDecoded vSymbols .LDA (.directIndexedX "FF" none) (place [(0x0000, 0x99)] vDecoded) =
      .next { place [(0x0000, 0x99)] vDecoded with a := 0x99, p := { Flags.reset with n := true }, started := true } := rfl
theorem test_decoded_jmp :
    executeDecoded vSymbols .JMP (.direct "ZP" none) vDecoded = .next { vDecoded with pc := 0x0010, started := true } := rfl

theorem test_cycles :
    [stepCycles (placeCode [0xBD, 0xFF, 0x12] v0), stepCycles (placeCode [0xBD, 0xFF, 0x12] { v0 with x := 0x01 }),
     stepCycles (placeCode [0x9D, 0xFF, 0x12] { v0 with x := 0x01 }),
     stepCycles (placeCode [0xD0, 0x02] { v0 with p := { Flags.reset with z := true } }),
     stepCycles (placeCode [0xD0, 0x02] v0), stepCycles (placeCode [0xD0, 0x7F] { v0 with pc := 0x80F0 }),
     stepCycles (placeCode [0x00] v0)] = [4, 5, 5, 2, 3, 4, 7] := by decide

/-! ### One step, rows of 95_test_vectors sections 1 and 2 (at most two per mnemonic) -/

theorem test_lda_a :
    run [(0x0010, 0x11)] [0xB5, 0xF0] { v0 with x := 0x20 } (fun t => (t.a, t.pc, t.p.n, t.p.z)) =
      some (0x11, 0x8002, false, false) := by decide

theorem test_lda_b :
    run [(0x00FF, 0xF8), (0x0000, 0x12), (0x1308, 0xAB)] [0xB1, 0xFF] { v0 with y := 0x10 } (fun t => (t.a, t.pc, t.p.n, t.p.z)) =
      some (0xAB, 0x8002, true, false) := by decide

theorem test_ldx_a :
    run [(0x0001, 0xFE)] [0xB6, 0xFF] { v0 with y := 0x02 } (fun t => (t.x, t.pc, t.p.n, t.p.z)) =
      some (0xFE, 0x8002, true, false) := by decide

theorem test_ldx_b :
    run [(0x0300, 0x00)] [0xBE, 0xFF, 0x02] { v0 with y := 0x01 } (fun t => (t.pc, t.p.n, t.p.z)) =
      some (0x8003, false, true) := by decide

theorem test_ldy_a :
    run [] [0xA0, 0x7F] v0 (fun t => (t.y, t.pc, t.p.n, t.p.z)) =
      some (0x7F, 0x8002, false, false) := by decide

theorem test_ldy_b :
    run [(0x0203, 0x80)] [0xBC, 0x00, 0x02] { v0 with x := 0x03 } (fun t => (t.y, t.pc, t.p.n, t.p.z)) =
      some (0x80, 0x8003, true, false) := by decide

theorem test_sta_a :
    run [(0x0010, 0xFF), (0x0011, 0x02)] [0x91, 0x10] { v0 with a := 0x42, y := 0x01 } (fun t => (t.pc, t.byteAt 0x0300, t.p.n, t.p.z)) =
      some (0x8002, 0x42, false, false) := by decide

theorem test_sta_b :
    run [] [0x95, 0x01] { v0 with a := 0x07, x := 0xFF } (fun t => (t.pc, t.byteAt 0x0000, t.p.n, t.p.z)) =
      some (0x8002, 0x07, false, false) := by decide

theorem test_stx_a :
    run [] [0x96, 0xFF] { v0 with x := 0x11, y := 0x01 } (fun t => (t.pc, t.byteAt 0x0000, t.p.n, t.p.z)) =
      some (0x8002, 0x11, false, false) := by decide

theorem test_sty_a :
    run [] [0x84, 0x10] { v0 with y := 0x22 } (fun t => (t.pc, t.byteAt 0x0010, t.p.n, t.p.z)) =
      some (0x8002, 0x22, false, false) := by decide

theorem test_tax_a :
    run [] [0xAA] { v0 with a := 0x80 } (fun t => (t.x, t.pc, t.p.n, t.p.z)) =
      some (0x80, 0x8001, true, false) := by decide

theorem test_tay_a :
    run [] [0xA8] { v0 with a := 0x00, y := 0x05 } (fun t => (t.y, t.pc, t.p.n, t.p.z)) =
      some (0x00, 0x8001, false, true) := by decide

theorem test_txa_a :
    run [] [0x8A] { v0 with x := 0x01, a := 0x55 } (fun t => (t.a, t.pc, t.p.n, t.p.z)) =
      some (0x01, 0x8001, false, false) := by decide

theorem test_tya_a :
    run [] [0x98] { v0 with y := 0xFF } (fun t => (t.a, t.pc, t.p.n, t.p.z)) =
      some (0xFF, 0x8001, true, false) := by decide

theorem test_tsx_a :
    run [] [0xBA] { v0 with sp := 0x00 } (fun t => (t.pc, t.p.n, t.p.z)) =
      some (0x8001, false, true) := by decide

theorem test_txs_a :
    run [] [0x9A] { v0 with x := 0x00, p := { Flags.reset with z := false, n := true } } (fun t => (t.sp, t.pc, t.p.n, t.p.z)) =
      some (0x00, 0x8001, true, false) := by decide

theorem test_inc_a :
    run [(0x0010, 0xFF)] [0xE6, 0x10] v0 (fun t => (t.pc, t.byteAt 0x0010, t.p.n, t.p.z, t.p.c)) =
      some (0x8002, 0x00, false, true, false) := by decide

theorem test_inc_b :
    run [(0x00FF, 0x41)] [0xF6, 0xFE] { v0 with x := 0x01 } (fun t => (t.pc, t.byteAt 0x00FF, t.p.n, t.p.z, t.p.c)) =
      some (0x8002, 0x42, false, false, false) := by decide

theorem test_dec_a :
    run [(0x0200, 0x00)] [0xCE, 0x00, 0x02] v0 (fun t => (t.pc, t.byteAt 0x0200, t.p.n, t.p.z, t.p.c)) =
      some (0x8003, 0xFF, true, false, false) := by decide

theorem test_dec_b :
    run [(0x02F5, 0x81)] [0xDE, 0xE5, 0x02] { v0 with x := 0x10 } (fun t => (t.pc, t.byteAt 0x02F5, t.p.n, t.p.z, t.p.c)) =
      some (0x8003, 0x80, true, false, false) := by decide

theorem test_inx_a :
    run [] [0xE8] { v0 with x := 0xFF } (fun t => (t.x, t.pc, t.p.n, t.p.z, t.p.c)) =
      some (0x00, 0x8001, false, true, false) := by decide

theorem test_iny_a :
    run [] [0xC8] { v0 with y := 0x7F } (fun t => (t.y, t.pc, t.p.n, t.p.z, t.p.c)) =
      some (0x80, 0x8001, true, false, false) := by decide

theorem test_dex_a :
    run [] [0xCA] { v0 with x := 0x00 } (fun t => (t.x, t.pc, t.p.n, t.p.z, t.p.c)) =
      some (0xFF, 0x8001, true, false, false) := by decide

theorem test_dey_a :
    run [] [0x88] { v0 with y := 0x01 } (fun t => (t.y, t.pc, t.p.n, t.p.z, t.p.c)) =
      some (0x00, 0x8001, false, true, false) := by decide

theorem test_asl_a :
    run [] [0x0A] { v0 with a := 0x41, p := { Flags.reset with c := true } } (fun t => (t.a, t.pc, t.p.n, t.p.z, t.p.c)) =
      some (0x82, 0x8001, true, false, false) := by decide

theorem test_asl_b :
    run [(0x0010, 0xC0)] [0x06, 0x10] v0 (fun t => (t.pc, t.byteAt 0x0010, t.p.n, t.p.z, t.p.c)) =
      some (0x8002, 0x80, true, false, true) := by decide

theorem test_lsr_a :
    run [] [0x4A] { v0 with a := 0xFF, p := { Flags.reset with n := true } } (fun t => (t.a, t.pc, t.p.n, t.p.z, t.p.c)) =
      some (0x7F, 0x8001, false, false, true) := by decide

theorem test_lsr_b :
    run [(0x0300, 0x80)] [0x4E, 0x00, 0x03] v0 (fun t => (t.pc, t.byteAt 0x0300, t.p.n, t.p.z, t.p.c)) =
      some (0x8003, 0x40, false, false, false) := by decide

theorem test_rol_a :
    run [] [0x2A] { v0 with a := 0x40, p := { Flags.reset with c := true } } (fun t => (t.a, t.pc, t.p.n, t.p.z, t.p.c)) =
      some (0x81, 0x8001, true, false, false) := by decide

theorem test_rol_b :
    run [(0x0044, 0xFF)] [0x26, 0x44] { v0 with p := { Flags.reset with c := true } } (fun t => (t.pc, t.byteAt 0x0044, t.p.n, t.p.z, t.p.c)) =
      some (0x8002, 0xFF, true, false, true) := by decide

theorem test_ror_a :
    run [] [0x6A] { v0 with a := 0x00, p := { Flags.reset with c := true } } (fun t => (t.a, t.pc, t.p.n, t.p.z, t.p.c)) =
      some (0x80, 0x8001, true, false, false) := by decide

theorem test_ror_b :
    run [(0x0201, 0x02)] [0x7E, 0x00, 0x02] { v0 with x := 0x01 } (fun t => (t.pc, t.byteAt 0x0201, t.p.n, t.p.z, t.p.c)) =
      some (0x8003, 0x01, false, false, false) := by decide

theorem test_and_a :
    run [] [0x29, 0x0F] { v0 with a := 0xF0 } (fun t => (t.a, t.pc, t.p.n, t.p.v, t.p.z, t.p.c)) =
      some (0x00, 0x8002, false, false, true, false) := by decide

theorem test_and_b :
    run [] [0x29, 0x80] { v0 with a := 0xFF } (fun t => (t.a, t.pc, t.p.n, t.p.v, t.p.z, t.p.c)) =
      some (0x80, 0x8002, true, false, false, false) := by decide

theorem test_ora_a :
    run [] [0x09, 0x80] { v0 with a := 0x01 } (fun t => (t.a, t.pc, t.p.n, t.p.v, t.p.z, t.p.c)) =
      some (0x81, 0x8002, true, false, false, false) := by decide

theorem test_ora_b :
    run [] [0x09, 0x00] { v0 with a := 0x00 } (fun t => (t.pc, t.p.n, t.p.v, t.p.z, t.p.c)) =
      some (0x8002, false, false, true, false) := by decide

theorem test_eor_a :
    run [] [0x49, 0xFF] { v0 with a := 0x55 } (fun t => (t.a, t.pc, t.p.n, t.p.v, t.p.z, t.p.c)) =
      some (0xAA, 0x8002, true, false, false, false) := by decide

theorem test_eor_b :
    run [] [0x49, 0x3C] { v0 with a := 0x3C } (fun t => (t.a, t.pc, t.p.n, t.p.v, t.p.z, t.p.c)) =
      some (0x00, 0x8002, false, false, true, false) := by decide

theorem test_cmp_a :
    run [] [0xC9, 0x01] { v0 with a := 0x00 } (fun t => (t.pc, t.p.n, t.p.v, t.p.z, t.p.c)) =
      some (0x8002, true, false, false, false) := by decide

theorem test_cmp_b :
    run [] [0xC9, 0x05] { v0 with a := 0x10, p := { Flags.reset with d := true, c := false } } (fun t => (t.pc, t.p.n, t.p.v, t.p.z, t.p.c)) =
      some (0x8002, false, false, false, true) := by decide

theorem test_cpx_a :
    run [] [0xE0, 0x10] { v0 with x := 0x10 } (fun t => (t.pc, t.p.n, t.p.v, t.p.z, t.p.c)) =
      some (0x8002, false, false, true, true) := by decide

theorem test_cpx_b :
    run [(0x0080, 0x00)] [0xE4, 0x80] { v0 with x := 0xFF } (fun t => (t.pc, t.p.n, t.p.v, t.p.z, t.p.c)) =
      some (0x8002, true, false, false, true) := by decide

theorem test_cpy_a :
    run [] [0xC0, 0x06] { v0 with y := 0x05 } (fun t => (t.pc, t.p.n, t.p.v, t.p.z, t.p.c)) =
      some (0x8002, true, false, false, false) := by decide

theorem test_cpy_b :
    run [(0x1234, 0x10)] [0xCC, 0x34, 0x12] { v0 with y := 0x90 } (fun t => (t.pc, t.p.n, t.p.v, t.p.z, t.p.c)) =
      some (0x8003, true, false, false, true) := by decide

theorem test_bit_a :
    run [(0x0040, 0xC0)] [0x24, 0x40] { v0 with a := 0x01 } (fun t => (t.pc, t.p.n, t.p.v, t.p.z, t.p.c)) =
      some (0x8002, true, true, true, false) := by decide

theorem test_bit_b :
    run [(0x0200, 0x01)] [0x2C, 0x00, 0x02] { v0 with a := 0xFF, p := { Flags.reset with v := true, n := true } } (fun t => (t.pc, t.p.n, t.p.v, t.p.z, t.p.c)) =
      some (0x8003, false, false, false, false) := by decide

theorem test_bcc_a :
    run [] [0x90, 0x0E] v0 (fun t => (t.pc)) =
      some (0x8010) := by decide

theorem test_bcs_a :
    run [] [0xB0, 0x0E] v0 (fun t => (t.pc)) =
      some (0x8002) := by decide

theorem test_bcs_b :
    run [] [0xB0, 0x0E] { v0 with p := { Flags.reset with c := true } } (fun t => (t.pc)) =
      some (0x8010) := by decide

theorem test_beq_a :
    run [] [0xF0, 0xF0] { v0 with pc := 0x8010, p := { Flags.reset with z := true } } (fun t => (t.pc)) =
      some (0x8002) := by decide

theorem test_beq_b :
    run [] [0xF0, 0xF0] { v0 with pc := 0x8010, p := { Flags.reset with z := false } } (fun t => (t.pc)) =
      some (0x8012) := by decide

theorem test_bne_a :
    run [] [0xD0, 0xFE] { v0 with pc := 0x0600 } (fun t => (t.pc)) =
      some (0x0600) := by decide

theorem test_bne_b :
    run [] [0xD0, 0x7F] { v0 with pc := 0x80F0, p := { Flags.reset with z := false } } (fun t => (t.pc)) =
      some (0x8171) := by decide

theorem test_bmi_a :
    run [] [0x30, 0x7F] { v0 with pc := 0xFFF0, p := { Flags.reset with n := true } } (fun t => (t.pc)) =
      some (0x0071) := by decide

theorem test_bpl_a :
    run [] [0x10, 0x80] { v0 with pc := 0x0010 } (fun t => (t.pc)) =
      some (0xFF92) := by decide

theorem test_bvc_a :
    run [] [0x50, 0x02] v0 (fun t => (t.pc)) =
      some (0x8004) := by decide

theorem test_bvs_a :
    run [] [0x70, 0x02] v0 (fun t => (t.pc)) =
      some (0x8002) := by decide

theorem test_bvs_b :
    run [] [0x70, 0x02] { v0 with p := { Flags.reset with v := true } } (fun t => (t.pc)) =
      some (0x8004) := by decide

theorem test_clc_a :
    run [] [0x18] { v0 with p := { Flags.reset with c := true } } (fun t => (t.pc, t.p.c)) =
      some (0x8001, false) := by decide

theorem test_sec_a :
    run [] [0x38] v0 (fun t => (t.pc, t.p.c)) =
      some (0x8001, true) := by decide

theorem test_cli_a :
    run [] [0x58] { v0 with p := { Flags.reset with i := true } } (fun t => (t.pc, t.p.i)) =
      some (0x8001, false) := by decide

theorem test_sei_a :
    run [] [0x78] v0 (fun t => (t.pc, t.p.i)) =
      some (0x8001, true) := by decide

theorem test_cld_a :
    run [] [0xD8] { v0 with p := { Flags.reset with d := true } } (fun t => (t.pc, t.p.d)) =
      some (0x8001, false) := by decide

theorem test_sed_a :
    run [] [0xF8] v0 (fun t => (t.pc, t.p.d)) =
      some (0x8001, true) := by decide

theorem test_clv_a :
    run [] [0xB8] { v0 with p := { Flags.reset with v := true } } (fun t => (t.pc, t.p.v)) =
      some (0x8001, false) := by decide

theorem test_pha_a :
    run [] [0x48] { v0 with a := 0x42 } (fun t => (t.sp, t.pc, t.byteAt 0x01FF)) =
      some (0xFE, 0x8001, 0x42) := by decide

theorem test_pha_b :
    run [] [0x48] { v0 with a := 0x42, sp := 0x00 } (fun t => (t.sp, t.pc, t.byteAt 0x0100)) =
      some (0xFF, 0x8001, 0x42) := by decide

theorem test_pla_a :
    run [(0x01FF, 0x00)] [0x68] { v0 with sp := 0xFE } (fun t => (t.sp, t.pc, t.p.z)) =
      some (0xFF, 0x8001, true) := by decide

theorem test_pla_b :
    run [(0x0100, 0x80)] [0x68] { v0 with sp := 0xFF } (fun t => (t.a, t.sp, t.pc, t.p.n)) =
      some (0x80, 0x00, 0x8001, true) := by decide

theorem test_php_a :
    run [] [0x08] { v0 with p := { Flags.reset with n := true, c := true } } (fun t => (t.sp, t.pc, t.byteAt 0x01FF)) =
      some (0xFE, 0x8001, 0xB1) := by decide

theorem test_php_b :
    run [] [0x08] { v0 with p := { Flags.reset with n := true, v := true, d := true, i := true, z := true, c := true } } (fun t => (t.sp, t.pc, t.byteAt 0x01FF)) =
      some (0xFE, 0x8001, 0xFF) := by decide

theorem test_plp_a :
    run [(0x01FF, 0x03)] [0x28] { v0 with sp := 0xFE } (fun t => (t.sp, t.pc, t.p.z, t.p.c)) =
      some (0xFF, 0x8001, true, true) := by decide

theorem test_plp_b :
    run [(0x01FF, 0x30)] [0x28] { v0 with sp := 0xFE, p := { Flags.reset with n := true, c := true } } (fun t => (t.sp, t.p)) =
      some (0xFF, Flags.reset) := by decide

theorem test_jmp_a :
    run [(0x02FF, 0x34), (0x0200, 0x12), (0x0300, 0x56)] [0x6C, 0xFF, 0x02] v0 (fun t => (t.pc)) =
      some (0x1234) := by decide

theorem test_jmp_b :
    run [(0x0280, 0x00), (0x0281, 0x90)] [0x6C, 0x80, 0x02] v0 (fun t => (t.pc)) =
      some (0x9000) := by decide

theorem test_jsr_a :
    run [] [0x20, 0x00, 0x90] { v0 with pc := 0xFFFE } (fun t => (t.sp, t.pc, t.byteAt 0x01FF, t.byteAt 0x01FE)) =
      some (0xFD, 0x9000, 0x00, 0x00) := by decide

theorem test_jsr_b :
    run [] [0x20, 0x00, 0x90] { v0 with sp := 0x00 } (fun t => (t.sp, t.pc, t.byteAt 0x0100, t.byteAt 0x01FF)) =
      some (0xFE, 0x9000, 0x80, 0x02) := by decide

theorem test_rts_a :
    run [(0x01FE, 0x02), (0x01FF, 0x80)] [0x60] { v0 with sp := 0xFD } (fun t => (t.sp, t.pc)) =
      some (0xFF, 0x8003) := by decide

theorem test_rts_b :
    run [(0x01FE, 0xFF), (0x01FF, 0xFF)] [0x60] { v0 with sp := 0xFD } (fun t => (t.sp, t.pc)) =
      some (0xFF, 0x0000) := by decide

theorem test_rti_a :
    run [(0x01FD, 0xA3), (0x01FE, 0x23), (0x01FF, 0x81)] [0x40] { v0 with sp := 0xFC, p := { Flags.reset with i := true } } (fun t => (t.sp, t.pc, t.p.n, t.p.i, t.p.z, t.p.c)) =
      some (0xFF, 0x8123, true, false, true, true) := by decide

theorem test_rti_b :
    run [(0x01FD, 0x30), (0x01FE, 0xFF), (0x01FF, 0x12)] [0x40] { v0 with sp := 0xFC } (fun t => (t.sp, t.pc)) =
      some (0xFF, 0x12FF) := by decide

theorem test_brk_a :
    run [] [0x00] { v0 with pc := 0x8005 } (fun t => (t.halted, t.pc)) =
      some (true, 0x8006) := by decide

theorem test_nop_a :
    run [] [0xEA] v0 (fun t => (t.pc)) =
      some (0x8001) := by decide

theorem test_adc_a :
    run [] [0x69, 0x01] { v0 with a := 0x7F } (fun t => (t.a, t.pc, t.p.n, t.p.v, t.p.z, t.p.c)) =
      some (0x80, 0x8002, true, true, false, false) := by decide

theorem test_adc_b :
    run [] [0x69, 0x46] { v0 with a := 0x58, p := { Flags.reset with d := true } } (fun t => (t.a, t.pc, t.p.z, t.p.c)) =
      some (0x04, 0x8002, false, true) := by decide

theorem test_sbc_a :
    run [] [0xE9, 0x01] { v0 with a := 0x80, p := { Flags.reset with c := true } } (fun t => (t.a, t.pc, t.p.n, t.p.v, t.p.z, t.p.c)) =
      some (0x7F, 0x8002, false, true, false, true) := by decide

theorem test_sbc_b :
    run [] [0xE9, 0x13] { v0 with a := 0x40, p := { Flags.reset with d := true, c := false } } (fun t => (t.a, t.pc, t.p.z, t.p.c)) =
      some (0x26, 0x8002, false, true) := by decide


/-! ### Witnesses: for each statement with hypotheses, states and operands that meet them all together, clause by clause -/

theorem witness_EncodeOfDecodeIsTheBytes : decode [0xAD, 0xFF, 0xFF, 0x00] = .instr (.ldaAbs 0xFFFF) [0x00] := rfl

theorem witness_OpcodeMapIsTheTableOfR76 :
    (Mnemonic.ADC, ModeKind.imm, (0x69 : Byte)) ∈ Claims.opcodeMap ∧ (Mnemonic.TYA, ModeKind.imp, (0x98 : Byte)) ∈ Claims.opcodeMap := by
  decide

/-- `LDA $1234` with its opcode byte at the top of memory and its operand bytes at 0x0000 and 0x0001. -/
def wFetch : State := { v0 with pc := 0xFFFF, mem := [(0x0000, 0x34), (0x0001, 0x12), (0xFFFF, 0xAD)] }

theorem witness_StepRunsTheDecodedInstruction :
    (wFetch.Running ∧ fetchDecode wFetch = .instr (.ldaAbs 0x1234) { wFetch with started := true }) ∧
    (wFetch.Running ∧ wFetch.params.readHooks = [] ∧
      decode [wFetch.byteAt wFetch.pc, wFetch.byteAt (wFetch.pc + 1), wFetch.byteAt (wFetch.pc + 2)] =
        .instr (.ldaAbs 0x1234) []) :=
  ⟨⟨by decide, by decide⟩, by decide, rfl, by decide⟩

theorem witness_NoStepAndNoServiceInATerminalState :
    ({ v0 with fault := some (.illegalOpcode 0x02 0x8000), halted := true }).fault = some (.illegalOpcode 0x02 0x8000) ∧
    (({ v0 with halted := true }).fault = none ∧ ({ v0 with halted := true }).halted = true) ∧ v0.Running := by decide

/-- An illegal byte at the top of memory, under each setting of P_ILLEGAL_OPCODE. -/
def wIllegal (policy : IllegalPolicy) : State :=
  placeCode [0xFF] { v0 with pc := 0xFFFF, params := { Params.decided with illegalOpcode := policy } }

theorem witness_IllegalOpcodeRecordsTheFault :
    ((wIllegal .fault).Running ∧ (wIllegal .fault).params.readHooks = [] ∧
      (wIllegal .fault).byteAt (wIllegal .fault).pc ∈ Claims.illegalBytes ∧ (wIllegal .fault).params.illegalOpcode = .fault) ∧
    ((wIllegal .nop1).Running ∧ (wIllegal .nop1).params.readHooks = [] ∧
      (wIllegal .nop1).byteAt (wIllegal .nop1).pc ∈ Claims.illegalBytes ∧ (wIllegal .nop1).params.illegalOpcode = .nop1) := by
  decide

/-- Three read hooks and three write hooks, the middle one claiming 0x4000 to 0x4FFF. -/
def wHooks : State :=
  let hooks : List AddrRange := [⟨0x0000, 0x00FF⟩, ⟨0x4000, 0x4FFF⟩, ⟨0x5000, 0x50FF⟩]
  { v0 with params := { Params.decided with readHooks := hooks, writeHooks := hooks } }

theorem witness_BusReadAsksHooksInOrder :
    (∀ r ∈ wHooks.params.readHooks, AddrRange.holds r 0x3FFF = false) ∧
    wHooks.params.readHooks = [⟨0x0000, 0x00FF⟩] ++ ⟨0x4000, 0x4FFF⟩ :: [⟨0x5000, 0x50FF⟩] ∧
    (∀ a ∈ [(0x4000 : Word), 0x4FFF], (∀ q ∈ [(⟨0x0000, 0x00FF⟩ : AddrRange)], AddrRange.holds q a = false) ∧
      AddrRange.holds ⟨0x4000, 0x4FFF⟩ a = true ∧ (∀ q ∈ [(⟨0x5000, 0x50FF⟩ : AddrRange)], AddrRange.holds q a = false)) := by
  refine ⟨?_, rfl, ?_⟩ <;> simp [wHooks, AddrRange.holds]

theorem witness_BusWriteAsksHooksInOrder :
    (wHooks.Inv ∧ ∀ r ∈ wHooks.params.writeHooks, AddrRange.holds r 0x5100 = false) ∧
    wHooks.params.writeHooks = [⟨0x0000, 0x00FF⟩] ++ ⟨0x4000, 0x4FFF⟩ :: [⟨0x5000, 0x50FF⟩] ∧
    (∀ a ∈ [(0x4000 : Word), 0x4FFF], (∀ q ∈ [(⟨0x0000, 0x00FF⟩ : AddrRange)], AddrRange.holds q a = false) ∧
      AddrRange.holds ⟨0x4000, 0x4FFF⟩ a = true ∧ (∀ q ∈ [(⟨0x5000, 0x50FF⟩ : AddrRange)], AddrRange.holds q a = false)) ∧
    (0xFFFF : Word) ≠ 0x0000 := by
  refine ⟨⟨rfl, ?_⟩, rfl, ?_, by decide⟩ <;> simp [wHooks, AddrRange.holds]

/-- The hooks of `wHooks` with code in memory that none of them claims. -/
def wHookedCode : State := { wHooks with mem := [(0x8000, 0xA9), (0x8001, 0x42)] }

theorem witness_StepRunsTheDecodedInstruction_hooks :
    wHookedCode.Running ∧
    (let op := busRead wHookedCode.pc { wHookedCode with started := true }
     let b1 := busRead (BitVec.ofNat 16 (wHookedCode.pc.toNat + 1)) op.2
     let b2 := busRead (BitVec.ofNat 16 (wHookedCode.pc.toNat + 2)) b1.2
     decode [op.1, b1.1, b2.1] = .instr (.ldaImm 0x42) [0x00]) := ⟨by decide, rfl⟩

theorem witness_IllegalOpcodeRecordsTheFault_hooks :
    ({ wHookedCode with pc := 0x8002, mem := [(0x8002, 0x02)] }).Running ∧
    (busRead 0x8002 { wHookedCode with pc := 0x8002, mem := [(0x8002, 0x02)], started := true }).1 ∈ Claims.illegalBytes :=
  ⟨by decide, by decide⟩

/-- Two hooks that both claim 0x4000, tried one after the other. -/
theorem witness_BusReadAsksHooksInOrder_later :
    (∀ q ∈ [(⟨0x0000, 0x00FF⟩ : AddrRange)], AddrRange.holds q 0x4000 = false) ∧
    AddrRange.holds ⟨0x4000, 0x4FFF⟩ 0x4000 = true ∧ AddrRange.holds ⟨0x3000, 0x4000⟩ 0x4000 = true := by
  simp [AddrRange.holds]

/-- No hooks, memory in its canonical form, SP at the bottom of the stack page. -/
def wPlain : State := { v0 with sp := 0x00 }

theorem witness_PullGivesBackThePushedByte :
    wPlain.Inv ∧ wPlain.params.readHooks = [] ∧ wPlain.params.writeHooks = [] := by decide
theorem witness_EffectiveAddressesOfTheIndirectModes : wPlain.params.readHooks = [] := rfl
theorem witness_OperandReadIsTheByteOrOneBusRead : wPlain.params.readHooks = [] := rfl

theorem witness_LoadsSetTheRegisterAndNZ :
    (Instr.ldaIndy 0xFF).mnemonic = .LDA ∧ (Instr.ldxZpy 0xFF).mnemonic = .LDX ∧ (Instr.ldyAbsx 0xFFFF).mnemonic = .LDY :=
  ⟨rfl, rfl, rfl⟩
theorem witness_StoresWriteTheRegisterAtEA :
    (Instr.staIndy 0xFF).mnemonic = .STA ∧ (Instr.stxZpy 0xFF).mnemonic = .STX ∧ (Instr.styAbs 0xFFFF).mnemonic = .STY :=
  ⟨rfl, rfl, rfl⟩
theorem witness_IncrementsAndDecrementsWrap :
    (Instr.incAbsx 0xFFFF).mnemonic = .INC ∧ (Instr.decZpx 0xFF).mnemonic = .DEC := ⟨rfl, rfl⟩
theorem witness_ShiftsMoveTheEndBitToCarry :
    Instr.aslAcc.mnemonic = .ASL ∧ (Instr.aslAbsx 0xFFFF).mnemonic = .ASL ∧ Instr.lsrAcc.mnemonic = .LSR ∧
    (Instr.lsrZp 0xFF).mnemonic = .LSR := ⟨rfl, rfl, rfl, rfl⟩
theorem witness_RotatesPassThroughCarry :
    Instr.rolAcc.mnemonic = .ROL ∧ (Instr.rolAbsx 0xFFFF).mnemonic = .ROL ∧ Instr.rorAcc.mnemonic = .ROR ∧
    (Instr.rorZp 0xFF).mnemonic = .ROR := ⟨rfl, rfl, rfl, rfl⟩
theorem witness_LogicalOperationsCombineAWithTheOperand :
    (Instr.andIndx 0xFF).mnemonic = .AND ∧ (Instr.oraImm 0xFF).mnemonic = .ORA ∧ (Instr.eorAbsy 0xFFFF).mnemonic = .EOR :=
  ⟨rfl, rfl, rfl⟩
theorem witness_ComparesSetNZCFromTheDifference :
    (Instr.cmpIndy 0xFF).mnemonic = .CMP ∧ (Instr.cpxImm 0xFF).mnemonic = .CPX ∧ (Instr.cpyAbs 0xFFFF).mnemonic = .CPY :=
  ⟨rfl, rfl, rfl⟩
theorem witness_BitTestsAAgainstTheByte : (Instr.bitAbs 0xFFFF).mnemonic = .BIT ∧ (Instr.bitZp 0x00).mnemonic = .BIT :=
  ⟨rfl, rfl⟩

theorem witness_BreakHaltsAndNopOnlyAdvances :
    (wPlain.fault = none ∧ ∃ t, exec .brk wPlain = .next t) ∧ wPlain.Running := ⟨⟨rfl, _, rfl⟩, by decide⟩

/-- D set, with decimal mode enabled or not. -/
def wDecimal (enabled : Bool) : State :=
  { v0 with a := 0x99, p := { Flags.reset with d := true, c := true }, params := { Params.decided with decimalEnabled := enabled } }

theorem witness_BinaryAdditionOfADC :
    ((Instr.adcIndy 0xFF).mnemonic = .ADC ∧ (v0.p.d && v0.params.decimalEnabled) = false) ∧
    ((Instr.adcImm 0xFF).mnemonic = .ADC ∧ ((wDecimal false).p.d && (wDecimal false).params.decimalEnabled) = false) := by decide
theorem witness_BinarySubtractionOfSBC :
    ((Instr.sbcIndy 0xFF).mnemonic = .SBC ∧ (v0.p.d && v0.params.decimalEnabled) = false) ∧
    ((Instr.sbcImm 0xFF).mnemonic = .SBC ∧ ((wDecimal false).p.d && (wDecimal false).params.decimalEnabled) = false) := by decide
theorem witness_DecimalAdditionOfADC :
    (Instr.adcAbsx 0xFFFF).mnemonic = .ADC ∧ ((wDecimal true).p.d && (wDecimal true).params.decimalEnabled) = true := by decide
theorem witness_DecimalSubtractionOfSBC :
    (Instr.sbcAbsx 0xFFFF).mnemonic = .SBC ∧ ((wDecimal true).p.d && (wDecimal true).params.decimalEnabled) = true := by decide
theorem witness_BinarySbcIsAdcOfTheComplement : (v0.p.d && v0.params.decimalEnabled) = false := rfl
theorem witness_BcdArithmeticIsDecimalArithmetic :
    ((wDecimal true).p.d && (wDecimal true).params.decimalEnabled) = true ∧ Claims.validBcd (wDecimal true).a ∧
    Claims.validBcd 0x99 ∧ Claims.validBcd 0x00 := ⟨rfl, ⟨by decide, by decide⟩, ⟨by decide, by decide⟩, by decide, by decide⟩

theorem witness_FlagFrameOfEveryInstruction :
    ∃ t, exec .txs v0 = .next t ∧ Instr.txs.mnemonic ∉ Claims.writersOfNZ ∧
      Instr.txs.mnemonic ∉ [Mnemonic.ADC, .SBC, .BIT, .CLV, .PLP, .RTI] ∧ Instr.txs.mnemonic ∉ [Mnemonic.CLD, .SED, .PLP, .RTI] ∧
      Instr.txs.mnemonic ∉ [Mnemonic.CLI, .SEI, .PLP, .RTI] ∧
      Instr.txs.mnemonic ∉ [Mnemonic.ASL, .LSR, .ROL, .ROR, .CMP, .CPX, .CPY, .ADC, .SBC, .CLC, .SEC, .PLP, .RTI] :=
  ⟨_, rfl, by decide, by decide, by decide, by decide, by decide⟩
theorem witness_RegisterFrameOfEveryInstruction :
    ∃ t, exec (.aslAbs 0xFFFF) v0 = .next t ∧ Mnemonic.ASL ∉ [Mnemonic.LDA, .TXA, .TYA, .PLA, .AND, .ORA, .EOR, .ADC, .SBC] ∧
      (Instr.aslAbs 0xFFFF).mode ≠ .acc ∧ Mnemonic.ASL ∉ [Mnemonic.LDX, .TAX, .TSX, .INX, .DEX] ∧
      Mnemonic.ASL ∉ [Mnemonic.LDY, .TAY, .INY, .DEY] ∧
      Mnemonic.ASL ∉ [Mnemonic.TXS, .PHA, .PHP, .PLA, .PLP, .JSR, .RTS, .RTI] ∧
      Mnemonic.ASL ∉ [Mnemonic.JMP, .JSR, .RTS, .RTI, .BRK, .BCC, .BCS, .BEQ, .BNE, .BMI, .BPL, .BVC, .BVS] :=
  ⟨_, rfl, by decide, by decide, by decide, by decide, by decide, by decide⟩
theorem witness_MemoryFrameOfTheNonStoringInstructions :
    ∃ t, exec .rorAcc v0 = .next t ∧ Instr.rorAcc.mnemonic ∉ [Mnemonic.STA, .STX, .STY, .INC, .DEC, .PHA, .PHP, .JSR] ∧
      (Instr.rorAcc.mnemonic ∈ [Mnemonic.ASL, .LSR, .ROL, .ROR] → Instr.rorAcc.mode = .acc) :=
  ⟨_, rfl, by decide, fun _ => rfl⟩
theorem witness_MemoryFrameOfStoresAndModifications :
    (∃ t, v0.Inv ∧ (Instr.incAbs 0xFFFF).mnemonic ∈ [Mnemonic.STA, .STX, .STY, .INC, .DEC, .ASL, .LSR, .ROL, .ROR] ∧
      (Instr.incAbs 0xFFFF).mode = .mem (.abs 0xFFFF) ∧ exec (.incAbs 0xFFFF) v0 = .next t ∧
      (0x0000 : Word) ≠ (effAddr (.abs 0xFFFF) v0).1) ∧
    (v0.Inv ∧ v0.params.writeHooks = [] ∧ (Instr.staAbs 0xFFFF).mode = .mem (.abs 0xFFFF) ∧
      (Instr.staAbs 0xFFFF).mnemonic ∈ [Mnemonic.STA, .STX, .STY]) :=
  ⟨⟨_, by decide, by decide, rfl, rfl, by decide⟩, by decide, rfl, rfl, by decide⟩
theorem witness_MemoryFrameOfPushes :
    (∃ t, wPlain.Inv ∧ exec .pha wPlain = .next t ∧ (0x01FF : Word) ≠ BitVec.ofNat 16 (0x0100 + wPlain.sp.toNat)) ∧
    (∃ t, wPlain.Inv ∧ exec (.jsr 0xFFFF) wPlain = .next t ∧ (0x0101 : Word) ≠ BitVec.ofNat 16 (0x0100 + wPlain.sp.toNat) ∧
      (0x0101 : Word) ≠ BitVec.ofNat 16 (0x0100 + (wPlain.sp.toNat + 255) % 256)) :=
  ⟨⟨_, by decide, rfl, by decide⟩, _, by decide, rfl, by decide, by decide⟩
theorem witness_ControlStateFrameOfEveryStep :
    (∃ t, step wFetch = .next t ∧ wFetch.params.readHooks = [] ∧ wFetch.params.writeHooks = []) ∧
    (∃ t, exec .sed v0 = .next t ∧ Instr.sed.mnemonic ≠ .BRK) := ⟨⟨_, rfl, rfl, rfl⟩, _, rfl, by decide⟩

theorem witness_PhpThenPlpRestoresFlagsAndSp :
    wPlain.Inv ∧ wPlain.params.readHooks = [] ∧ wPlain.params.writeHooks = [] := by decide
theorem witness_RtsAfterJsrReturnsPastTheCall :
    ({ wPlain with pc := 0xFFFF }).Inv ∧ ({ wPlain with pc := 0xFFFF }).params.readHooks = [] ∧
    ({ wPlain with pc := 0xFFFF }).params.writeHooks = [] := by decide

/-- The latch set, with SP where the three pushes wrap. -/
def wNmi : State := { vNmi with sp := 0x01, nmiPending := true }

theorem witness_RtiAfterTheNmiServiceResumes :
    wNmi.Inv ∧ wNmi.Running ∧ wNmi.nmiPending = true ∧ wNmi.params.readHooks = [] ∧ wNmi.params.writeHooks = [] := by decide
theorem witness_NmiServiceTakesTheInterrupt :
    (vNmi.nmiPending = false ∧ vNmi.Running) ∧ ¬ ({ wNmi with halted := true }).Running ∧
    (wNmi.Running ∧ wNmi.nmiPending = true) := by decide
theorem witness_NmiServiceLeavesThreeStackBytes :
    wNmi.Inv ∧ wNmi.Running ∧ wNmi.nmiPending = true ∧ wNmi.params.readHooks = [] ∧ wNmi.params.writeHooks = [] ∧
    (0xFFFF : Word) ≠ BitVec.ofNat 16 (0x0100 + (wNmi.sp.toNat + 0) % 256) ∧
    (0xFFFF : Word) ≠ BitVec.ofNat 16 (0x0100 + (wNmi.sp.toNat + 255) % 256) ∧
    (0xFFFF : Word) ≠ BitVec.ofNat 16 (0x0100 + (wNmi.sp.toNat + 254) % 256) := by decide

theorem witness_HaltAndFaultEndOnlyWithResetOrANewRun :
    ∃ t, ¬ ({ v0 with halted := true }).Running ∧ hostAct .triggerNmi { v0 with halted := true } = .next t ∧
      HostAction.triggerNmi ≠ .reset ∧ ∀ image params, HostAction.triggerNmi ≠ .create image params :=
  ⟨_, by decide, rfl, by decide, fun _ _ => by simp⟩
theorem witness_LoadOnlyBeforeTheFirstStep :
    ({ v0 with started := true }).started = true ∧ v0.started = false ∧ (∃ t, hostAct .step wFetch = .next t) ∧
    (∃ t, hostAct (.executeDecoded vSymbols .NOP .none) v0 = .next t) := ⟨rfl, rfl, ⟨_, rfl⟩, _, rfl⟩
theorem witness_EveryStepKeepsMemoryCanonical :
    ∃ t, wFetch.Inv ∧ step wFetch = .next t := ⟨_, by decide, rfl⟩
theorem witness_EveryHostActionKeepsMemoryCanonical :
    v0.Inv ∧ (∃ t, hostAct (.create [(0xFFFF, 0x01), (0x0000, 0x02)] Params.decided) v0 = .next t) ∧
    (∃ t, hostAct (.load (.byte 0xFFFF 0x01)) v0 = .next t) ∧ (∃ t, hostAct .handleInterrupts wNmi = .next t) :=
  ⟨by decide, ⟨_, rfl⟩, ⟨_, rfl⟩, _, rfl⟩

theorem witness_DecodedExecutionRunsTheInstructionWithoutMovingPc :
    (v0.Running ∧ resolvePair vSymbols .JMP (.direct "ZP" none) = .instr (.jmpAbs 0x0010)) ∧
    (v0.Running ∧ resolvePair vSymbols .LDA (.directIndexedX "FF" none) = .instr (.ldaZpx 0xFF)) ∧
    (v0.Running ∧ resolvePair vSymbols .BNE (.direct "HI" none) = .branch .BNE 0x1234) ∧
    (v0.Running ∧ resolvePair vSymbols .STA (.immediateByte 5) = .unsupported) ∧
    (v0.Running ∧ resolvePair vSymbols .LDA (.constantReference "K") = .outOfRange) := by decide
theorem witness_UnresolvedLabelRecordsTheFault :
    v0.Running ∧ vSymbols.labels.lookup "FWD" = none ∧ vSymbols.consts.lookup "FWD" = none ∧
    SymMode.directIndexedY "FWD" (some 1) ∈
      [SymMode.direct "FWD" (some 1), .directIndexedX "FWD" (some 1), .directIndexedY "FWD" (some 1), .indirectIndexedX "FWD",
       .indirectIndexedY "FWD", .indirectAbsolute "FWD", .immediate16Low (.label "FWD"), .immediate16High (.label "FWD")] := by decide
theorem witness_SizeFunctionAgreesWithTheDecoder :
    resolvePair vSymbols .LDA (.direct "FF" none) = .instr (.ldaZp 0xFF) ∧
    resolvePair vSymbols .LDA (.direct "FF" (some 1)) = .instr (.ldaAbs 0x0100) ∧
    resolvePair vSymbols .BEQ (.direct "ZP" none) = .branch .BEQ 0x0010 := by decide

end Sys2Proof.Tests
end

section
/-! PROOF. What the execution of an instruction is, said once by its mnemonic and its addressing mode
(40_execution_cycle R102 to R106). -/

namespace Sys2Proof.Proofs

open Sys2Proof Sys2Proof.Machine Sys2Proof.Claims

/-! ### The meaning of a mnemonic -/

/-- What an instruction that reads an operand does with the byte it read. -/
inductive OperandAction : Mnemonic → (Byte → State → State) → Prop
  | lda : OperandAction .LDA loadA
  | ldx : OperandAction .LDX loadX
  | ldy : OperandAction .LDY loadY
  | and : OperandAction .AND andA
  | ora : OperandAction .ORA oraA
  | eor : OperandAction .EOR eorA
  | cmp : OperandAction .CMP cmpOperand
  | cpx : OperandAction .CPX cpxOperand
  | cpy : OperandAction .CPY cpyOperand
  | bit : OperandAction .BIT bitOperand
  | adc : OperandAction .ADC adcOperand
  | sbc : OperandAction .SBC sbcOperand

/-- The register a store writes to memory. -/
inductive StoreAction : Mnemonic → (State → Byte) → Prop
  | sta : StoreAction .STA State.a
  | stx : StoreAction .STX State.x
  | sty : StoreAction .STY State.y

/-- What a read-modify-write makes of a byte and the flags. -/
inductive ModifyAction : Mnemonic → (Byte → Flags → Byte × Flags) → Prop
  | inc : ModifyAction .INC incByte
  | dec : ModifyAction .DEC decByte
  | asl : ModifyAction .ASL aslByte
  | lsr : ModifyAction .LSR lsrByte
  | rol : ModifyAction .ROL rolByte
  | ror : ModifyAction .ROR rorByte

/-- What an implied instruction does before PC moves on by one. -/
inductive ImpliedAction : Mnemonic → (State → State) → Prop
  | tax : ImpliedAction .TAX fun s => (s.setX s.a).setP (s.p.setNZ s.a)
  | tay : ImpliedAction .TAY fun s => (s.setY s.a).setP (s.p.setNZ s.a)
  | txa : ImpliedAction .TXA fun s => (s.setA s.x).setP (s.p.setNZ s.x)
  | tya : ImpliedAction .TYA fun s => (s.setA s.y).setP (s.p.setNZ s.y)
  | tsx : ImpliedAction .TSX fun s => (s.setX s.sp).setP (s.p.setNZ s.sp)
  | txs : ImpliedAction .TXS fun s => s.setSP s.x
  | inx : ImpliedAction .INX fun s => (s.setX (inc8 s.x)).setP (s.p.setNZ (inc8 s.x))
  | iny : ImpliedAction .INY fun s => (s.setY (inc8 s.y)).setP (s.p.setNZ (inc8 s.y))
  | dex : ImpliedAction .DEX fun s => (s.setX (dec8 s.x)).setP (s.p.setNZ (dec8 s.x))
  | dey : ImpliedAction .DEY fun s => (s.setY (dec8 s.y)).setP (s.p.setNZ (dec8 s.y))
  | clc : ImpliedAction .CLC fun s => s.setP { s.p with c := false }
  | sec : ImpliedAction .SEC fun s => s.setP { s.p with c := true }
  | cli : ImpliedAction .CLI fun s => s.setP { s.p with i := false }
  | sei : ImpliedAction .SEI fun s => s.setP { s.p with i := true }
  | cld : ImpliedAction .CLD fun s => s.setP { s.p with d := false }
  | sed : ImpliedAction .SED fun s => s.setP { s.p with d := true }
  | clv : ImpliedAction .CLV fun s => s.setP { s.p with v := false }
  | pha : ImpliedAction .PHA fun s => push s.a s
  | pla : ImpliedAction .PLA fun s => ((pull s).2.setA (pull s).1).setP (s.p.setNZ (pull s).1)
  | php : ImpliedAction .PHP fun s => push (pack s.p s.params.bPushPhp) s
  | plp : ImpliedAction .PLP fun s => (pull s).2.setP (unpack (pull s).1)
  | nop : ImpliedAction .NOP fun s => s

/-- What an instruction that gives PC a value of its own, and is no branch, answers. -/
inductive ControlAction : Mnemonic → Mode → (State → State) → Prop
  | jmpAbs (a : Word) : ControlAction .JMP (.mem (.abs a)) fun s => s.setPC a
  | jmpInd (a : Word) : ControlAction .JMP (.ind a) fun s => (read16Bug a s).2.setPC (read16Bug a s).1
  | jsr (a : Word) : ControlAction .JSR (.mem (.abs a)) fun s => (pushWord (s.pc + 2) s).setPC a
  | rts : ControlAction .RTS .imp fun s => (pullWord s).2.setPC ((pullWord s).1 + 1)
  | rti : ControlAction .RTI .imp returnFromInterrupt
  | brk : ControlAction .BRK .imp fun s => (halt s).setPC (s.pc + s.params.brkAdvance)

/-! ### The shape of an execution -/

/-- The seven shapes of an execution: the shared operation that `exec` calls, with the mode's operand and the mnemonic's
meaning. -/
inductive ExecShape (i : Instr) (s : State) : Prop
  | operand {o : Operand} {f : Byte → State → State} (action : OperandAction i.mnemonic f)
      (exec_eq : exec i s = withOperand o f s) (mode_eq : i.mode = o.mode)
  | store {m : AddrMode} {r : State → Byte} (action : StoreAction i.mnemonic r)
      (exec_eq : exec i s = storeByte m (r s) s) (mode_eq : i.mode = .mem m)
  | modify {m : AddrMode} {f : Byte → Flags → Byte × Flags} (action : ModifyAction i.mnemonic f)
      (exec_eq : exec i s = modifyByte m f s) (mode_eq : i.mode = .mem m)
  | accumulator {f : Byte → Flags → Byte × Flags} (action : ModifyAction i.mnemonic f)
      (exec_eq : exec i s = modifyA f s) (mode_eq : i.mode = .acc)
  | implied {f : State → State} (action : ImpliedAction i.mnemonic f)
      (exec_eq : exec i s = implied f s) (mode_eq : i.mode = .imp)
  | branch {taken : Bool} {off : Byte} (exec_eq : exec i s = branchIf taken off s)
      (mode_eq : i.mode = .rel off) (cond_eq : Machine.cond s.p i.mnemonic = some taken)
  | control {f : State → State} (action : ControlAction i.mnemonic i.mode f)
      (exec_eq : exec i s = .next (f s))

/-- Every execution has one of the seven shapes (40_execution_cycle R102 to R106). -/
theorem exec_shape (i : Instr) (s : State) : ExecShape i s := by
  cases i
  case ldaImm | ldaZp | ldaZpx | ldaAbs | ldaAbsx | ldaAbsy | ldaIndx | ldaIndy => exact .operand .lda rfl rfl
  case ldxImm | ldxZp | ldxZpy | ldxAbs | ldxAbsy => exact .operand .ldx rfl rfl
  case ldyImm | ldyZp | ldyZpx | ldyAbs | ldyAbsx => exact .operand .ldy rfl rfl
  case andImm | andZp | andZpx | andAbs | andAbsx | andAbsy | andIndx | andIndy => exact .operand .and rfl rfl
  case oraImm | oraZp | oraZpx | oraAbs | oraAbsx | oraAbsy | oraIndx | oraIndy => exact .operand .ora rfl rfl
  case eorImm | eorZp | eorZpx | eorAbs | eorAbsx | eorAbsy | eorIndx | eorIndy => exact .operand .eor rfl rfl
  case cmpImm | cmpZp | cmpZpx | cmpAbs | cmpAbsx | cmpAbsy | cmpIndx | cmpIndy => exact .operand .cmp rfl rfl
  case cpxImm | cpxZp | cpxAbs => exact .operand .cpx rfl rfl
  case cpyImm | cpyZp | cpyAbs => exact .operand .cpy rfl rfl
  case bitZp | bitAbs => exact .operand .bit rfl rfl
  case adcImm | adcZp | adcZpx | adcAbs | adcAbsx | adcAbsy | adcIndx | adcIndy => exact .operand .adc rfl rfl
  case sbcImm | sbcZp | sbcZpx | sbcAbs | sbcAbsx | sbcAbsy | sbcIndx | sbcIndy => exact .operand .sbc rfl rfl
  case staZp | staZpx | staAbs | staAbsx | staAbsy | staIndx | staIndy => exact .store .sta rfl rfl
  case stxZp | stxZpy | stxAbs => exact .store .stx rfl rfl
  case styZp | styZpx | styAbs => exact .store .sty rfl rfl
  case incZp | incZpx | incAbs | incAbsx => exact .modify .inc rfl rfl
  case decZp | decZpx | decAbs | decAbsx => exact .modify .dec rfl rfl
  case aslZp | aslZpx | aslAbs | aslAbsx => exact .modify .asl rfl rfl
  case lsrZp | lsrZpx | lsrAbs | lsrAbsx => exact .modify .lsr rfl rfl
  case rolZp | rolZpx | rolAbs | rolAbsx => exact .modify .rol rfl rfl
  case rorZp | rorZpx | rorAbs | rorAbsx => exact .modify .ror rfl rfl
  case aslAcc => exact .accumulator .asl rfl rfl
  case lsrAcc => exact .accumulator .lsr rfl rfl
  case rolAcc => exact .accumulator .rol rfl rfl
  case rorAcc => exact .accumulator .ror rfl rfl
  case bcc | bcs | beq | bne | bmi | bpl | bvc | bvs => exact .branch rfl rfl rfl
  case jmpAbs a => exact .control (.jmpAbs a) rfl
  case jmpInd a => exact .control (.jmpInd a) rfl
  case jsr a => exact .control (.jsr a) rfl
  case rts => exact .control .rts rfl
  case rti => exact .control .rti rfl
  case brk => exact .control .brk rfl
  case tax => exact .implied .tax rfl rfl
  case tay => exact .implied .tay rfl rfl
  case txa => exact .implied .txa rfl rfl
  case tya => exact .implied .tya rfl rfl
  case tsx => exact .implied .tsx rfl rfl
  case txs => exact .implied .txs rfl rfl
  case inx => exact .implied .inx rfl rfl
  case iny => exact .implied .iny rfl rfl
  case dex => exact .implied .dex rfl rfl
  case dey => exact .implied .dey rfl rfl
  case clc => exact .implied .clc rfl rfl
  case sec => exact .implied .sec rfl rfl
  case cli => exact .implied .cli rfl rfl
  case sei => exact .implied .sei rfl rfl
  case cld => exact .implied .cld rfl rfl
  case sed => exact .implied .sed rfl rfl
  case clv => exact .implied .clv rfl rfl
  case pha => exact .implied .pha rfl rfl
  case pla => exact .implied .pla rfl rfl
  case php => exact .implied .php rfl rfl
  case plp => exact .implied .plp rfl rfl
  case nop => exact .implied .nop rfl rfl

end Sys2Proof.Proofs
end

section
/-! PROOF. The frame of a step: what no operation of a step touches, and the statements of 10_state that follow
from it. -/

namespace Sys2Proof.Proofs

open Sys2Proof Sys2Proof.Machine Sys2Proof.Claims

/-- What every operation of a step keeps: the NMI latch, the parameters and the started bit stay, the log of hook calls
only grows and stays as it was with no hooks, and memory stays canonical. -/
structure StepFrame (s t : State) : Prop where
  nmiPending : t.nmiPending = s.nmiPending
  params : t.params = s.params
  started : t.started = s.started
  hookLog : s.hookLog <:+ t.hookLog
  hookLog_noHooks : s.params.readHooks = [] → s.params.writeHooks = [] → t.hookLog = s.hookLog
  inv : s.Inv → t.Inv

namespace StepFrame

theorem refl (s : State) : StepFrame s s where
  nmiPending := rfl
  params := rfl
  started := rfl
  hookLog := List.suffix_refl _
  hookLog_noHooks _ _ := rfl
  inv h := h

theorem trans {s t u : State} (hst : StepFrame s t) (htu : StepFrame t u) : StepFrame s u where
  nmiPending := htu.nmiPending.trans hst.nmiPending
  params := htu.params.trans hst.params
  started := htu.started.trans hst.started
  hookLog := hst.hookLog.trans htu.hookLog
  hookLog_noHooks hr hw := by
    rw [← hst.hookLog_noHooks hr hw]
    rw [← hst.params] at hr hw
    exact htu.hookLog_noHooks hr hw
  inv h := htu.inv (hst.inv h)

/-- Writing registers, flags, the two terminal fields and the count of draws keeps the frame. -/
theorem write {s t : State} (hst : StepFrame s t) {a x y sp : Byte} {pc : Word} {p : Flags} {halted : Bool}
    {fault : Option FaultKind} {draws : Nat} :
    StepFrame s { t with a, x, y, sp, pc, p, halted, fault, draws } where
  nmiPending := hst.nmiPending
  params := hst.params
  started := hst.started
  hookLog := hst.hookLog
  hookLog_noHooks := hst.hookLog_noHooks
  inv := hst.inv

end StepFrame

theorem busRead_stepFrame (a : Word) (s : State) : StepFrame s (busRead a s).2 where
  nmiPending := rfl
  params := rfl
  started := rfl
  hookLog := busRead_log a s
  hookLog_noHooks hr _ := by rw [busRead_noHooks a hr]
  inv h := h

theorem busWrite_stepFrame (a : Word) (v : Byte) (s : State) : StepFrame s (busWrite a v s) where
  nmiPending := rfl
  params := rfl
  started := rfl
  hookLog := busWrite_log a v s
  hookLog_noHooks _ hw := by rw [busWrite_noHooks a v hw, State.setMem_hookLog]
  inv := busWrite_inv a v

theorem readPair_stepFrame (a b : Word) (s : State) : StepFrame s (readPair a b s).2 :=
  (busRead_stepFrame a s).trans (busRead_stepFrame b _)

theorem push_stepFrame (v : Byte) (s : State) : StepFrame s (push v s) := (busWrite_stepFrame _ v s).write

theorem pushWord_stepFrame (w : Word) (s : State) : StepFrame s (pushWord w s) :=
  (push_stepFrame _ s).trans (push_stepFrame _ _)

theorem pull_stepFrame (s : State) : StepFrame s (pull s).2 := (StepFrame.refl s).write.trans (busRead_stepFrame _ _)

theorem pullWord_stepFrame (s : State) : StepFrame s (pullWord s).2 := (pull_stepFrame s).trans (pull_stepFrame _)

theorem effAddr_stepFrame (m : AddrMode) (s : State) : StepFrame s (effAddr m s).2 := by
  cases m
  case indx | indy => exact readPair_stepFrame _ _ s
  all_goals exact .refl s

theorem readOperand_stepFrame (o : Operand) (s : State) : StepFrame s (readOperand o s).2 := by
  cases o with
  | imm v => exact .refl s
  | mem m => exact (effAddr_stepFrame m s).trans (busRead_stepFrame _ _)

theorem adcOperand_stepFrame (m : Byte) (s : State) : StepFrame s (adcOperand m s) := by
  unfold adcOperand
  split <;> exact (StepFrame.refl s).write

theorem sbcOperand_stepFrame (m : Byte) (s : State) : StepFrame s (sbcOperand m s) := by
  unfold sbcOperand
  split <;> exact (StepFrame.refl s).write

theorem returnFromInterrupt_stepFrame (s : State) : StepFrame s (returnFromInterrupt s) :=
  ((pull_stepFrame s).write.trans (pullWord_stepFrame _)).write

theorem OperandAction.stepFrame {mn : Mnemonic} {f : Byte → State → State} (hf : OperandAction mn f) (m : Byte)
    (s : State) : StepFrame s (f m s) := by
  cases hf with
  | adc => exact adcOperand_stepFrame m s
  | sbc => exact sbcOperand_stepFrame m s
  | _ => exact (StepFrame.refl s).write

theorem ImpliedAction.stepFrame {mn : Mnemonic} {f : State → State} (hf : ImpliedAction mn f) (s : State) :
    StepFrame s (f s) := by
  cases hf with
  | pha | php => exact push_stepFrame _ s
  | pla | plp => exact (pull_stepFrame s).write
  | _ => exact (StepFrame.refl s).write

theorem ControlAction.stepFrame {mn : Mnemonic} {md : Mode} {f : State → State} (hf : ControlAction mn md f)
    (s : State) : StepFrame s (f s) := by
  cases hf with
  | jmpAbs | brk => exact (StepFrame.refl s).write
  | jmpInd => exact (readPair_stepFrame _ _ s).write
  | jsr => exact (pushWord_stepFrame _ s).write
  | rts => exact (pullWord_stepFrame s).write
  | rti => exact returnFromInterrupt_stepFrame s

/-- The execution of an instruction keeps the frame of a step. -/
theorem exec_stepFrame {i : Instr} {s t : State} (h : exec i s = .next t) : StepFrame s t := by
  cases exec_shape i s with
  | @operand o f hf he =>
    cases he.symm.trans h
    exact ((readOperand_stepFrame o s).trans (hf.stepFrame _ _)).write
  | @store m r _ he =>
    cases he.symm.trans h
    exact ((effAddr_stepFrame m s).trans (busWrite_stepFrame _ _ _)).write
  | @modify m f _ he =>
    cases he.symm.trans h
    exact (((effAddr_stepFrame m s).trans (busRead_stepFrame _ _)).trans (busWrite_stepFrame _ _ _)).write
  | accumulator _ he =>
    cases he.symm.trans h
    exact (StepFrame.refl s).write
  | implied hf he =>
    cases he.symm.trans h
    exact (hf.stepFrame s).write
  | branch he =>
    cases he.symm.trans h
    exact (StepFrame.refl s).write
  | control hf he =>
    cases he.symm.trans h
    exact hf.stepFrame s

/-! ### The step -/

/-- The state after a fetch. -/
def fetchedState : Fetched → State
  | .instr _ s => s
  | .illegal _ s => s

/-- A fetch sets the started bit and then only reads. -/
theorem fetchDecode_stepFrame (s : State) : StepFrame (s.setStarted true) (fetchedState (fetchDecode s)) := by
  have hop := busRead_stepFrame s.pc (s.setStarted true)
  unfold fetchDecode
  dsimp only
  split
  · exact hop
  · exact hop
  · exact hop.trans (busRead_stepFrame _ _)
  · exact hop.trans (readPair_stepFrame _ _ _)

/-- An illegal opcode byte records a fault or moves PC on, and nothing else. -/
theorem illegalOpcode_stepFrame {op : Byte} {s t : State} (h : illegalOpcode op s = .next t) : StepFrame s t := by
  unfold illegalOpcode at h
  split at h <;> cases h <;> exact (StepFrame.refl s).write

/-- A step that answers a next state starts in a running state, and is a fetch and then the execution of what was
fetched. -/
theorem step_next {s t : State} (h : step s = .next t) :
    s.Running ∧
      ((∃ i u, fetchDecode s = .instr i u ∧ exec i u = .next t) ∨
        (∃ op u, fetchDecode s = .illegal op u ∧ illegalOpcode op u = .next t)) := by
  unfold step at h
  split at h
  · cases h
  · next hterminal =>
    refine ⟨terminal_eq_none_iff.1 hterminal, ?_⟩
    split at h
    · next i u hfetch => exact .inl ⟨i, u, hfetch, h⟩
    · next op u hfetch => exact .inr ⟨op, u, hfetch, h⟩

/-- A step sets the started bit and otherwise keeps the frame. -/
theorem step_stepFrame {s t : State} (h : step s = .next t) : StepFrame (s.setStarted true) t := by
  have hfetch := fetchDecode_stepFrame s
  obtain ⟨-, ⟨i, u, hu, hexec⟩ | ⟨op, u, hu, hillegal⟩⟩ := step_next h
  · rw [hu] at hfetch
    exact hfetch.trans (exec_stepFrame hexec)
  · rw [hu] at hfetch
    exact hfetch.trans (illegalOpcode_stepFrame hillegal)

/-- A decoded pair that answers a next state was executed in a running state, and either its label has no value, or it is
a branch or unsupported, or it is an instruction whose execution answers. -/
theorem executeDecoded_next {y : Symbols} {mn : Mnemonic} {sm : SymMode} {s t : State}
    (h : executeDecoded y mn sm s = .next t) :
    s.Running ∧
      ((∃ l, resolvePair y mn sm = .unresolved l ∧ t = raiseFault (.unresolvedLabel l) (s.setStarted true)) ∨
        (((∃ b a, resolvePair y mn sm = .branch b a) ∨ resolvePair y mn sm = .unsupported) ∧ t = s.setStarted true) ∨
        (∃ i u, resolvePair y mn sm = .instr i ∧ exec i (s.setStarted true) = .next u ∧ t = keepPc mn s.pc u)) := by
  unfold executeDecoded at h
  split at h
  · cases h
  · next hterminal =>
    refine ⟨terminal_eq_none_iff.1 hterminal, ?_⟩
    dsimp only at h
    split at h
    · next l hpair =>
      cases h
      exact .inl ⟨l, hpair, rfl⟩
    · cases h
    · next hpair =>
      cases h
      exact .inr (.inl ⟨.inr hpair, rfl⟩)
    · next b a hpair =>
      cases h
      exact .inr (.inl ⟨.inl ⟨b, a, hpair⟩, rfl⟩)
    · next i hpair =>
      split at h
      · next u hexec =>
        cases h
        exact .inr (.inr ⟨i, u, hpair, hexec, rfl⟩)
      · cases h
      · cases h

theorem keepPc_stepFrame (mn : Mnemonic) (pc : Word) (s : State) : StepFrame s (keepPc mn pc s) := by
  unfold keepPc
  split
  · exact .refl s
  · exact (StepFrame.refl s).write

/-- An executed decoded pair sets the started bit and otherwise keeps the frame. -/
theorem executeDecoded_stepFrame {y : Symbols} {mn : Mnemonic} {sm : SymMode} {s t : State}
    (h : executeDecoded y mn sm s = .next t) : StepFrame (s.setStarted true) t := by
  obtain ⟨-, ⟨l, -, rfl⟩ | ⟨-, rfl⟩ | ⟨i, u, -, hexec, rfl⟩⟩ := executeDecoded_next h
  · exact (StepFrame.refl _).write
  · exact .refl _
  · exact (exec_stepFrame hexec).trans (keepPc_stepFrame mn s.pc u)

/-! ### The statements about every step, reset and load -/

/-- Settles O55: every operation of a step keeps memory canonical, and a step is made of them. -/
theorem everyStepKeepsMemoryCanonical : Obligations.EveryStepKeepsMemoryCanonical := by
  intro s t hinv hstep
  exact (step_stepFrame hstep).inv hinv

/-- Settles O54: a load is one field, and the frame of a step carries the started bit that the fetch sets. -/
theorem loadOnlyBeforeTheFirstStep : Obligations.LoadOnlyBeforeTheFirstStep := by
  refine ⟨fun s q hs => if_pos hs, fun s hs => ?_, fun s t h => (step_stepFrame h).started,
    fun y mn sm s t h => (executeDecoded_stepFrame h).started, fun s => rfl⟩
  have hload (q : LoadItem) : hostAct (.load q) s = .next (loadItem q s) := if_neg (by simp [hs])
  exact ⟨fun v => hload (.a v), fun v => hload (.x v), fun v => hload (.y v), fun v => hload (.sp v),
    fun w => hload (.pc w), fun f => hload (.flags f), fun a v => hload (.byte a v)⟩

/-- Settles O52: `resetCore` is the reset state with memory and the model's own three fields put back. -/
theorem resetGivesTheZeroBaseline : Obligations.ResetGivesTheZeroBaseline := by
  refine ⟨fun s => ⟨resetCore s, rfl, ?_⟩, ?_⟩
  · exact ⟨rfl, rfl, rfl, rfl, rfl, rfl, rfl, rfl, rfl, rfl, rfl, rfl, rfl, rfl⟩
  · exact ⟨rfl, rfl, rfl, rfl, rfl, rfl, rfl, rfl, rfl⟩

end Sys2Proof.Proofs
end

section
/-! PROOF. Which register is written under which mnemonic, and where PC goes (10_state R22 to R26,
40_execution_cycle R101). -/

namespace Sys2Proof.Proofs

open Sys2Proof Sys2Proof.Machine Sys2Proof.Claims

/-- The mnemonics that write A in every mode (10_state R22). -/
def writersOfA : List Mnemonic := [.LDA, .TXA, .TYA, .PLA, .AND, .ORA, .EOR, .ADC, .SBC]

/-- The mnemonics that write X (10_state R23). -/
def writersOfX : List Mnemonic := [.LDX, .TAX, .TSX, .INX, .DEX]

/-- The mnemonics that write Y (10_state R24). -/
def writersOfY : List Mnemonic := [.LDY, .TAY, .INY, .DEY]

/-- The mnemonics that move SP (10_state R25). -/
def writersOfSP : List Mnemonic := [.TXS, .PHA, .PHP, .PLA, .PLP, .JSR, .RTS, .RTI]

/-- The mnemonics that give PC a value other than PC_next (40_execution_cycle R101). -/
def writersOfPC : List Mnemonic :=
  [.JMP, .JSR, .RTS, .RTI, .BRK, .BCC, .BCS, .BEQ, .BNE, .BMI, .BPL, .BVC, .BVS]

/-- What an operation of an instruction with this mnemonic changes: a register only if the mnemonic writes it, the halted
flag only under BRK, and never the fault record. `acc` says that the instruction has the accumulator form. -/
structure WriteFrame (mn : Mnemonic) (acc : Prop) (s t : State) : Prop where
  a : mn ∉ writersOfA → ¬ acc → t.a = s.a
  x : mn ∉ writersOfX → t.x = s.x
  y : mn ∉ writersOfY → t.y = s.y
  sp : mn ∉ writersOfSP → t.sp = s.sp
  halted : mn ≠ .BRK → t.halted = s.halted
  fault : t.fault = s.fault

namespace WriteFrame

variable {mn : Mnemonic} {acc : Prop} {s t u : State}

theorem trans (hst : WriteFrame mn acc s t) (htu : WriteFrame mn acc t u) : WriteFrame mn acc s u where
  a h hacc := (htu.a h hacc).trans (hst.a h hacc)
  x h := (htu.x h).trans (hst.x h)
  y h := (htu.y h).trans (hst.y h)
  sp h := (htu.sp h).trans (hst.sp h)
  halted h := (htu.halted h).trans (hst.halted h)
  fault := htu.fault.trans hst.fault

/-- The fields the frame does not speak of may be written under every mnemonic. -/
theorem writeOther {pc : Word} {p : Flags} {nmiPending started : Bool} {mem : Memory} {params : Params}
    {hookLog : List HookCall} {draws : Nat} :
    WriteFrame mn acc s { s with pc, p, nmiPending, mem, params, hookLog, draws, started } where
  a _ _ := rfl
  x _ := rfl
  y _ := rfl
  sp _ := rfl
  halted _ := rfl
  fault := rfl

theorem writeA (hmn : mn ∈ writersOfA) {a : Byte} {p : Flags} {draws : Nat} :
    WriteFrame mn acc s { s with a, p, draws } where
  a h := absurd hmn h
  x _ := rfl
  y _ := rfl
  sp _ := rfl
  halted _ := rfl
  fault := rfl

theorem writeX (hmn : mn ∈ writersOfX) {x : Byte} {p : Flags} : WriteFrame mn acc s { s with x, p } where
  a _ _ := rfl
  x h := absurd hmn h
  y _ := rfl
  sp _ := rfl
  halted _ := rfl
  fault := rfl

theorem writeY (hmn : mn ∈ writersOfY) {y : Byte} {p : Flags} : WriteFrame mn acc s { s with y, p } where
  a _ _ := rfl
  x _ := rfl
  y h := absurd hmn h
  sp _ := rfl
  halted _ := rfl
  fault := rfl

theorem writeSP (hmn : mn ∈ writersOfSP) {sp : Byte} {mem : Memory} {hookLog : List HookCall} :
    WriteFrame mn acc s { s with sp, mem, hookLog } where
  a _ _ := rfl
  x _ := rfl
  y _ := rfl
  sp h := absurd hmn h
  halted _ := rfl
  fault := rfl

theorem writeAcc (hacc : acc) {a : Byte} {p : Flags} {pc : Word} : WriteFrame mn acc s { s with a, p, pc } where
  a _ h := absurd hacc h
  x _ := rfl
  y _ := rfl
  sp _ := rfl
  halted _ := rfl
  fault := rfl

end WriteFrame

section
variable {mn : Mnemonic} {acc : Prop} {s : State}

theorem busWrite_writeFrame (a : Word) (v : Byte) : WriteFrame mn acc s (busWrite a v s) := .writeOther

theorem effAddr_writeFrame (m : AddrMode) : WriteFrame mn acc s (effAddr m s).2 := by
  rw [effAddr_state]
  exact .writeOther

theorem readOperand_writeFrame (o : Operand) : WriteFrame mn acc s (readOperand o s).2 := by
  rw [readOperand_state]
  exact .writeOther

theorem push_writeFrame (hmn : mn ∈ writersOfSP) (v : Byte) : WriteFrame mn acc s (push v s) := .writeSP hmn

theorem pull_writeFrame (hmn : mn ∈ writersOfSP) : WriteFrame mn acc s (pull s).2 := .writeSP hmn

theorem pushWord_writeFrame (hmn : mn ∈ writersOfSP) (w : Word) : WriteFrame mn acc s (pushWord w s) := .writeSP hmn

theorem pullWord_writeFrame (hmn : mn ∈ writersOfSP) : WriteFrame mn acc s (pullWord s).2 := .writeSP hmn

theorem adcOperand_writeFrame (hmn : mn ∈ writersOfA) (m : Byte) : WriteFrame mn acc s (adcOperand m s) := by
  unfold adcOperand
  split <;> exact .writeA hmn

theorem sbcOperand_writeFrame (hmn : mn ∈ writersOfA) (m : Byte) : WriteFrame mn acc s (sbcOperand m s) := by
  unfold sbcOperand
  split <;> exact .writeA hmn

theorem returnFromInterrupt_writeFrame (hmn : mn ∈ writersOfSP) : WriteFrame mn acc s (returnFromInterrupt s) :=
  ((pull_writeFrame hmn).trans .writeOther).trans ((pullWord_writeFrame hmn).trans .writeOther)

theorem OperandAction.writeFrame {f : Byte → State → State} (hf : OperandAction mn f) (m : Byte) :
    WriteFrame mn acc s (f m s) := by
  cases hf with
  | lda | and | ora | eor => exact .writeA (by decide)
  | ldx => exact .writeX (by decide)
  | ldy => exact .writeY (by decide)
  | cmp | cpx | cpy | bit => exact .writeOther
  | adc => exact adcOperand_writeFrame (by decide) m
  | sbc => exact sbcOperand_writeFrame (by decide) m

theorem ImpliedAction.writeFrame {f : State → State} (hf : ImpliedAction mn f) : WriteFrame mn acc s (f s) := by
  cases hf with
  | txa | tya => exact .writeA (by decide)
  | tax | tsx | inx | dex => exact .writeX (by decide)
  | tay | iny | dey => exact .writeY (by decide)
  | txs => exact .writeSP (by decide)
  | clc | sec | cli | sei | cld | sed | clv | nop => exact .writeOther
  | pha | php => exact push_writeFrame (by decide) _
  | pla => exact (pull_writeFrame (by decide)).trans (.writeA (by decide))
  | plp => exact (pull_writeFrame (by decide)).trans .writeOther

theorem ControlAction.writeFrame {md : Mode} {f : State → State} (hf : ControlAction mn md f) :
    WriteFrame mn acc s (f s) := by
  cases hf with
  | jmpAbs | jmpInd => exact .writeOther
  | jsr => exact (pushWord_writeFrame (by decide) _).trans .writeOther
  | rts => exact (pullWord_writeFrame (by decide)).trans .writeOther
  | rti => exact returnFromInterrupt_writeFrame (by decide)
  | brk => exact ⟨fun _ _ => rfl, fun _ => rfl, fun _ => rfl, fun _ => rfl, fun h => absurd rfl h, rfl⟩

/-- The execution of an instruction writes only the registers its mnemonic and mode say. -/
theorem exec_writeFrame {i : Instr} {t : State} (h : exec i s = .next t) :
    WriteFrame i.mnemonic (i.mode = .acc) s t := by
  cases exec_shape i s with
  | @operand o f hf he =>
    cases he.symm.trans h
    exact ((readOperand_writeFrame o).trans (hf.writeFrame _)).trans .writeOther
  | @store m r _ he =>
    cases he.symm.trans h
    exact ((effAddr_writeFrame m).trans (busWrite_writeFrame _ _)).trans .writeOther
  | modify _ he =>
    obtain ⟨ha, hx, hy, hsp, -, hhalted, -, hfault, -⟩ := modifyByte_next (he.symm.trans h)
    exact ⟨fun _ _ => ha, fun _ => hx, fun _ => hy, fun _ => hsp, fun _ => hhalted, hfault⟩
  | accumulator _ he hmode =>
    cases he.symm.trans h
    exact .writeAcc hmode
  | implied hf he =>
    cases he.symm.trans h
    exact hf.writeFrame.trans .writeOther
  | branch he =>
    cases he.symm.trans h
    exact .writeOther
  | control hf he =>
    cases he.symm.trans h
    exact hf.writeFrame

end

/-! ### PC -/

/-- `PC_next` as the model advances PC. -/
theorem pcNext_eq (i : Instr) (s : State) : pcNext i s = s.pc + BitVec.ofNat 16 (lengthOfKind i.mode.kind) := by
  rw [pcNext, BitVec.ofNat_add, BitVec.ofNat_toNat, BitVec.setWidth_eq]

theorem addrModeLength_eq (m : AddrMode) : addrModeLength m = lengthOfKind m.kind := by cases m <;> rfl

theorem operandLength_eq (o : Operand) : operandLength o = lengthOfKind o.mode.kind := by
  cases o with
  | imm v => rfl
  | mem m => exact addrModeLength_eq m

theorem OperandAction.pc {mn : Mnemonic} {f : Byte → State → State} (hf : OperandAction mn f) (m : Byte) (s : State) :
    (f m s).pc = s.pc := by
  cases hf with
  | adc => exact adcOperand_pc m s
  | sbc => exact sbcOperand_pc m s
  | _ => rfl

theorem ImpliedAction.pc {mn : Mnemonic} {f : State → State} (hf : ImpliedAction mn f) (s : State) :
    (f s).pc = s.pc := by
  cases hf <;> rfl

theorem ControlAction.mem_writersOfPC {mn : Mnemonic} {md : Mode} {f : State → State} (hf : ControlAction mn md f) :
    mn ∈ writersOfPC := by
  cases hf <;> decide

/-- The mnemonics with a branch predicate are the eight branches. -/
theorem mem_writersOfPC_of_cond {p : Flags} {mn : Mnemonic} {taken : Bool} (h : Machine.cond p mn = some taken) :
    mn ∈ writersOfPC := by
  cases mn
  case BCC | BCS | BEQ | BNE | BMI | BPL | BVC | BVS => decide
  all_goals cases h

/-- PC moves on by the instruction's length but for the jumps, BRK and the branches. -/
theorem exec_pc {i : Instr} {s t : State} (h : exec i s = .next t) (hmn : i.mnemonic ∉ writersOfPC) :
    t.pc = pcNext i s := by
  rw [pcNext_eq]
  cases exec_shape i s with
  | @operand o f hf he hmode =>
    cases he.symm.trans h
    rw [advance_pc, hf.pc, readOperand_pc, operandLength_eq, hmode]
  | @store m r _ he hmode =>
    cases he.symm.trans h
    rw [advance_pc, busWrite_pc, effAddr_pc, addrModeLength_eq, hmode, Mode.kind]
  | @modify m f _ he hmode =>
    obtain ⟨-, -, -, -, hpc, -⟩ := modifyByte_next (he.symm.trans h)
    rw [hpc, addrModeLength_eq, hmode, Mode.kind]
  | accumulator _ he hmode =>
    cases he.symm.trans h
    rw [advance_pc, hmode]
    rfl
  | implied hf he hmode =>
    cases he.symm.trans h
    rw [advance_pc, hf.pc, hmode]
    rfl
  | branch _ _ hcond => exact absurd (mem_writersOfPC_of_cond hcond) hmn
  | control hf => exact absurd hf.mem_writersOfPC hmn

/-! ### The statements about registers and control state -/

/-- Settles O42: each register is written only where the mnemonic's meaning names it, and PC moves on by the length. -/
theorem registerFrameOfEveryInstruction : Obligations.RegisterFrameOfEveryInstruction := by
  intro i s t h
  obtain ⟨ha, hx, hy, hsp, -, -⟩ := exec_writeFrame h
  exact ⟨ha, hx, hy, hsp, exec_pc h⟩

/-- Settles O46: the frame of a step, and for one instruction the halted flag and the fault record beside it. -/
theorem controlStateFrameOfEveryStep : Obligations.ControlStateFrameOfEveryStep := by
  refine ⟨fun s t h => ?_, fun i s t h => ?_⟩
  · have hframe := step_stepFrame h
    exact ⟨hframe.nmiPending, hframe.params, hframe.hookLog, hframe.hookLog_noHooks⟩
  · have hwrite := exec_writeFrame h
    exact ⟨hwrite.fault, (exec_stepFrame h).started, hwrite.halted⟩

end Sys2Proof.Proofs
end

section
/-! PROOF. The bus with its hooks, the 16-bit reads and the stack in the words of the spec's rules, and the
statements about them (20_memory R51, R52, R56, R59 to R61). -/

namespace Sys2Proof.Proofs

open Sys2Proof Sys2Proof.Machine Sys2Proof.Claims

/-! ### The first hook that claims an address -/

section
variable {a : Word} {k : Nat} {before after : List AddrRange} {r : AddrRange} {log : List HookCall}
  (hbefore : ∀ q ∈ before, AddrRange.holds q a = false) (hr : AddrRange.holds r a = true)
include hbefore hr

/-- The answer of the first claiming hook ends the search. -/
theorem tryReadHooks_first_answers {v : Byte} (hv : Config.readHook log (k + before.length) a = some v) :
    tryReadHooks a k (before ++ r :: after) log = (some v, .read (k + before.length) a (some v) :: log) := by
  rw [tryReadHooks_skip _ _ _ _ _ hbefore, tryReadHooks, if_pos hr, hv]

/-- Where the first claiming hook does not answer, the search goes on behind it. -/
theorem tryReadHooks_first_passes (hv : Config.readHook log (k + before.length) a = none) :
    tryReadHooks a k (before ++ r :: after) log =
      tryReadHooks a (k + before.length + 1) after (.read (k + before.length) a none :: log) := by
  rw [tryReadHooks_skip _ _ _ _ _ hbefore, tryReadHooks, if_pos hr, hv]

/-- The first claiming hook that handles the write ends the search. -/
theorem tryWriteHooks_first_handles {v : Byte} (hv : Config.writeHook log (k + before.length) a v = true) :
    tryWriteHooks a v k (before ++ r :: after) log = (true, .write (k + before.length) a v true :: log) := by
  rw [tryWriteHooks_skip _ _ _ _ _ _ hbefore, tryWriteHooks, if_pos hr, hv]

/-- Where the first claiming hook does not handle the write, the search goes on behind it. -/
theorem tryWriteHooks_first_passes {v : Byte} (hv : Config.writeHook log (k + before.length) a v = false) :
    tryWriteHooks a v k (before ++ r :: after) log =
      tryWriteHooks a v (k + before.length + 1) after (.write (k + before.length) a v false :: log) := by
  rw [tryWriteHooks_skip _ _ _ _ _ _ hbefore, tryWriteHooks, if_pos hr, hv]

end

/-! ### The bus -/

/-- A bus read gives the byte of the hook that answered, or that of memory where none did (20_memory R51). -/
theorem busRead_of_tryReadHooks {a : Word} {s : State} {answer : Option Byte} {log : List HookCall}
    (h : tryReadHooks a 0 s.params.readHooks s.hookLog = (answer, log)) :
    busRead a s = (answer.getD (s.byteAt a), s.setHookLog log) := by
  simp only [busRead, h]

/-- A bus write puts the byte unless a hook handled it (20_memory R52). -/
theorem busWrite_of_tryWriteHooks {a : Word} {v : Byte} {s : State} {handled : Bool} {log : List HookCall}
    (h : tryWriteHooks a v 0 s.params.writeHooks s.hookLog = (handled, log)) :
    busWrite a v s = (s.setHookLog log).setMem (if handled then s.mem else Memory.put s.mem a.toNat v) := by
  simp only [busWrite, h]

theorem busWrite_hookLog_of_tryWriteHooks {a : Word} {v : Byte} {s : State} {handled : Bool} {log : List HookCall}
    (h : tryWriteHooks a v 0 s.params.writeHooks s.hookLog = (handled, log)) : (busWrite a v s).hookLog = log := by
  rw [busWrite_of_tryWriteHooks h, State.setMem_hookLog, State.setHookLog_hookLog]

/-- A handled write changes nothing but the log of hook calls. -/
theorem busWrite_of_handled {a : Word} {v : Byte} {s : State} {log : List HookCall}
    (h : tryWriteHooks a v 0 s.params.writeHooks s.hookLog = (true, log)) : busWrite a v s = s.setHookLog log :=
  busWrite_of_tryWriteHooks h

/-- A bus write that no hook handled leaves the byte written at its address and every other byte as it was. -/
theorem busWrite_byteAt_of_unhandled {a : Word} {v : Byte} {s : State} {log : List HookCall} (hinv : s.Inv)
    (h : tryWriteHooks a v 0 s.params.writeHooks s.hookLog = (false, log)) (b : Word) :
    (busWrite a v s).byteAt b = if b = a then v else s.byteAt b := by
  rw [busWrite_of_tryWriteHooks h]
  exact Memory.get_put hinv a b v

/-- Settles O10: the search for an answering hook passes over those that do not claim the address, and a read is that
search and then memory. -/
theorem busReadAsksHooksInOrder : Obligations.BusReadAsksHooksInOrder := by
  refine ⟨fun a s h => ?_, fun a s before after r hs hbefore hr => ?_, fun a s => ?_, tryReadHooks_none,
    fun a k before after r log hbefore hr => ?_, fun a s => ⟨busRead_state a s, busRead_log a s⟩⟩
  · exact busRead_of_tryReadHooks (tryReadHooks_none a 0 _ _ h)
  · split
    · next v hv =>
      refine busRead_of_tryReadHooks (answer := some v) ?_
      rw [← Nat.zero_add before.length] at hv ⊢
      rw [hs, tryReadHooks_first_answers hbefore hr hv]
    · next hv =>
      intro hafter
      refine busRead_of_tryReadHooks (answer := none) ?_
      rw [← Nat.zero_add before.length] at hv ⊢
      rw [hs, tryReadHooks_first_passes hbefore hr hv, tryReadHooks_none _ _ _ _ hafter]
  · intro q
    rw [busRead_of_tryReadHooks (answer := q.1) (log := q.2) rfl]
    cases q.1 <;> rfl
  · split
    · next hv => exact tryReadHooks_first_answers hbefore hr hv
    · next hv => exact tryReadHooks_first_passes hbefore hr hv

/-- Settles O11: the search for a hook that handles the write goes as that for a read, and memory in its canonical form
reads back what was put. -/
theorem busWriteAsksHooksInOrder : Obligations.BusWriteAsksHooksInOrder := by
  refine ⟨fun a b v s hinv h => ?_, fun a v s before after r hinv hs hbefore hr => ?_, fun a b v s hinv => ?_,
    tryWriteHooks_none, fun a v k before after r log hbefore hr => ?_,
    fun a b v s hinv hb => busWrite_byteAt_other v hinv hb, fun a v s => ⟨busWrite_state a v s, busWrite_log a v s⟩⟩
  · have hnone := tryWriteHooks_none a v 0 _ s.hookLog h
    exact ⟨busWrite_byteAt_of_unhandled hinv hnone b, busWrite_hookLog_of_tryWriteHooks hnone⟩
  · split
    · next hv =>
      refine busWrite_of_handled ?_
      rw [← Nat.zero_add before.length] at hv ⊢
      rw [hs, tryWriteHooks_first_handles hbefore hr hv]
    · next hv =>
      intro hafter
      have hpass : tryWriteHooks a v 0 s.params.writeHooks s.hookLog =
          (false, .write before.length a v false :: s.hookLog) := by
        rw [← Nat.zero_add before.length] at hv ⊢
        rw [hs, tryWriteHooks_first_passes hbefore hr hv, tryWriteHooks_none _ _ _ _ _ hafter]
      exact ⟨(busWrite_byteAt_of_unhandled hinv hpass a).trans (if_pos rfl), busWrite_hookLog_of_tryWriteHooks hpass⟩
  · intro q
    cases hq : q.1 with
    | true =>
      rw [busWrite_of_handled (log := q.2) (Prod.ext hq rfl)]
      exact ⟨(if_neg fun h => Bool.noConfusion h.1).symm, rfl, fun _ => rfl⟩
    | false =>
      have hnone : tryWriteHooks a v 0 s.params.writeHooks s.hookLog = (false, q.2) := Prod.ext hq rfl
      refine ⟨?_, busWrite_hookLog_of_tryWriteHooks hnone, nofun⟩
      simpa using busWrite_byteAt_of_unhandled hinv hnone b
  · split
    · next hv => exact tryWriteHooks_first_handles hbefore hr hv
    · next hv => exact tryWriteHooks_first_passes hbefore hr hv

/-! ### The 16-bit reads -/

theorem readPair_eq_ofNat (a b : Word) (s : State) :
    readPair a b s = (BitVec.ofNat 16 ((busRead b (busRead a s).2).1.toNat * 256 + (busRead a s).1.toNat),
      (busRead b (busRead a s).2).2) := by
  rw [readPair, wordOf_eq_ofNat]

theorem wordOf_zero (p : Byte) : wordOf 0 p = BitVec.ofNat 16 p.toNat := by
  simp [wordOf_eq_ofNat]

/-- Adding a number to a byte or an address wraps. -/
theorem ofNat_toNat_add {w : Nat} (a : BitVec w) (n : Nat) : BitVec.ofNat w (a.toNat + n) = a + BitVec.ofNat w n := by
  rw [BitVec.ofNat_add, BitVec.ofNat_toNat, BitVec.setWidth_eq]

/-- The high byte of one word and the low byte of another, by the masks 0xFF00 and 0x00FF. -/
theorem wordOf_hiByte_loByte (a b : Word) : wordOf (hiByte a) (loByte b) = (a &&& 0xFF00) ||| (b &&& 0x00FF) := by
  have hff (v : Byte) : v &&& 0xFF = v := BitVec.and_allOnes
  calc wordOf (hiByte a) (loByte b)
      = (wordOf (hiByte a) (loByte a) &&& wordOf 0xFF 0) ||| (wordOf (hiByte b) (loByte b) &&& wordOf 0 0xFF) := by
        unfold wordOf
        rw [BitVec.and_append, BitVec.and_append, BitVec.or_append, hff, hff]
        simp
    _ = (a &&& 0xFF00) ||| (b &&& 0x00FF) := by
        rw [wordOf_hi_lo, wordOf_hi_lo]
        rfl

theorem loByte_add_one (a : Word) : loByte a + 1 = loByte (a + 1) := by
  apply BitVec.eq_of_toNat_eq
  simp [BitVec.toNat_add, loByte_toNat]

/-- Settles O12: each helper is one pair of byte reads, and its high byte's address is the spec's. -/
theorem sixteenBitReadsAreTwoByteReads : Obligations.SixteenBitReadsAreTwoByteReads := by
  refine ⟨fun a s => ?_, fun p s => ?_, fun a s => ?_⟩
  · rw [ofNat_toNat_add]
    exact readPair_eq_ofNat a (a + 1) s
  · have hhi : BitVec.ofNat 16 ((p.toNat + 1) % 256) = wordOf 0 (p + 1) := by
      rw [wordOf_zero, BitVec.toNat_add]
      rfl
    rw [hhi, ← wordOf_zero]
    exact readPair_eq_ofNat _ _ s
  · rw [← wordOf_hiByte_loByte, ← loByte_add_one]
    exact readPair_eq_ofNat _ _ s

/-! ### The stack -/

/-- Settles O13: the stack slot and the two steps of SP, as numbers. -/
theorem pushWritesThenDecrements : Obligations.PushWritesThenDecrements := by
  refine ⟨fun v s => ?_, fun s => ?_⟩
  · rw [← stackSlot_eq, ofNat_toNat_add]
    exact congrArg (busWrite (stackSlot s.sp) v s).setSP (BitVec.sub_eq_add_neg s.sp 1)
  · have hslot : BitVec.ofNat 16 (0x0100 + (s.sp.toNat + 1) % 256) = stackSlot (s.sp + 1) := by
      rw [stackSlot_eq, BitVec.toNat_add]
      rfl
    rw [hslot, ofNat_toNat_add]
    rfl

/-- With no write hooks a push leaves its byte at the stack slot that SP names. -/
theorem push_byteAt_self (v : Byte) {s : State} (hinv : s.Inv) (hwrite : s.params.writeHooks = []) :
    (push v s).byteAt (stackSlot s.sp) = v := by
  rw [push_noHooks v hwrite]
  exact (State.setMem_put_byteAt hinv _ _ v).trans (if_pos rfl)

/-- Settles O14: the slot that the pull reads is the one the push wrote, since SP is back at its value before. -/
theorem pullGivesBackThePushedByte : Obligations.PullGivesBackThePushedByte := by
  intro v s hinv hread hwrite
  have hbyte := push_byteAt_self v hinv hwrite
  refine ⟨?_, by rw [← stackSlot_eq]; exact hbyte⟩
  rw [pull_noHooks (by rw [push_params]; exact hread), push_sp, BitVec.sub_add_cancel, hbyte, push_noHooks v hwrite]
  rfl

/-- A push changes no byte but the one at the stack slot that SP names. -/
theorem push_byteAt_other (v : Byte) {s : State} (hinv : s.Inv) {a : Word} (ha : a ≠ stackSlot s.sp) :
    (push v s).byteAt a = s.byteAt a :=
  busWrite_byteAt_other v hinv ha

/-- Settles O45: PHA and PHP are one push, JSR is two. -/
theorem memoryFrameOfPushes : Obligations.MemoryFrameOfPushes := by
  refine ⟨fun i s t hinv hi h a ha => ?_, fun w s t hinv h a ha hpred => ?_⟩
  · rw [← stackSlot_eq] at ha
    rcases hi with rfl | rfl
    all_goals
      cases h
      exact push_byteAt_other _ hinv ha
  · have hslot : BitVec.ofNat 16 (0x0100 + (s.sp.toNat + 255) % 256) = stackSlot (s.sp - 1) := by
      rw [stackSlot_eq, BitVec.toNat_sub, Nat.add_comm s.sp.toNat]
      rfl
    rw [← stackSlot_eq] at ha
    rw [hslot] at hpred
    cases h
    calc (pushWord (s.pc + 2) s).byteAt a = (push (hiByte (s.pc + 2)) s).byteAt a :=
          push_byteAt_other _ (push_inv _ hinv) hpred
      _ = s.byteAt a := push_byteAt_other _ hinv ha

end Sys2Proof.Proofs
end

section
/-! PROOF. The fetch as the decoder on the bytes that bus reads give, and the step that runs what it fetched
(40_execution_cycle R98 to R102). -/

namespace Sys2Proof.Proofs

open Sys2Proof Sys2Proof.Machine Sys2Proof.Claims

/-! ### The decoder and the fetch, form by form -/

section
variable {op : Byte}

theorem decode_f1 {i : Instr} (h : formOf op = some (.f1 i)) (rest : List Byte) :
    decode (op :: rest) = .instr i rest := by
  simp only [decode, h]

theorem decode_f2 {mk : Byte → Instr} (h : formOf op = some (.f2 mk)) (b : Byte) (rest : List Byte) :
    decode (op :: b :: rest) = .instr (mk b) rest := by
  simp only [decode, h]

theorem decode_f3 {mk : Word → Instr} (h : formOf op = some (.f3 mk)) (lo hi : Byte) (rest : List Byte) :
    decode (op :: lo :: hi :: rest) = .instr (mk (wordOf hi lo)) rest := by
  simp only [decode, h]

theorem decode_none (h : formOf op = none) (rest : List Byte) : decode (op :: rest) = .illegal op := by
  simp only [decode, h]

end

/-- The bus read of the opcode byte, with the state after it. -/
def opcodeRead (s : State) : Byte × State := busRead s.pc (s.setStarted true)

/-- The bus read of the byte after the opcode byte. -/
def operandRead1 (s : State) : Byte × State := busRead (s.pc + 1) (opcodeRead s).2

/-- The bus read of the byte after that. -/
def operandRead2 (s : State) : Byte × State := busRead (s.pc + 2) (operandRead1 s).2

section
variable {s : State}

theorem fetchDecode_f1 {i : Instr} (h : formOf (opcodeRead s).1 = some (.f1 i)) :
    fetchDecode s = .instr i (opcodeRead s).2 := by
  unfold opcodeRead at h
  simp only [fetchDecode, h]
  rfl

theorem fetchDecode_f2 {mk : Byte → Instr} (h : formOf (opcodeRead s).1 = some (.f2 mk)) :
    fetchDecode s = .instr (mk (operandRead1 s).1) (operandRead1 s).2 := by
  unfold opcodeRead at h
  simp only [fetchDecode, h]
  rfl

theorem fetchDecode_f3 {mk : Word → Instr} (h : formOf (opcodeRead s).1 = some (.f3 mk)) :
    fetchDecode s = .instr (mk (wordOf (operandRead2 s).1 (operandRead1 s).1)) (operandRead2 s).2 := by
  unfold opcodeRead at h
  simp only [fetchDecode, h]
  rfl

end

theorem lengthOfKind_eq (m : Mode) : lengthOfKind m.kind = m.operandBytes.length + 1 := by
  cases m with
  | mem a => cases a <;> rfl
  | _ => rfl

/-- The state after the bus reads of an instruction of that length. -/
def stateAfterReads (s : State) (length : Nat) : State :=
  if length = 1 then (opcodeRead s).2 else if length = 2 then (operandRead1 s).2 else (operandRead2 s).2

/-- The fetch reads as many bytes as the instruction they decode to is long (40_execution_cycle R98 to R100). -/
theorem fetchDecode_of_decode {s : State} {i : Instr} {rest : List Byte}
    (h : decode [(opcodeRead s).1, (operandRead1 s).1, (operandRead2 s).1] = .instr i rest) :
    fetchDecode s = .instr i (stateAfterReads s (lengthOfKind i.mode.kind)) := by
  cases hform : formOf (opcodeRead s).1 with
  | none => cases (decode_none hform _).symm.trans h
  | some f =>
    have hsound := formOf_sound hform
    cases f with
    | f1 j =>
      cases (decode_f1 hform _).symm.trans h
      rw [fetchDecode_f1 hform, lengthOfKind_eq, hsound.2]
      rfl
    | f2 mk =>
      cases (decode_f2 hform _ _).symm.trans h
      rw [fetchDecode_f2 hform, lengthOfKind_eq, (hsound _).2]
      rfl
    | f3 mk =>
      cases (decode_f3 hform _ _ _).symm.trans h
      rw [fetchDecode_f3 hform, lengthOfKind_eq, (hsound _).2]
      rfl

/-- A fetch sets the started bit and otherwise changes only the log of hook calls. -/
theorem fetchDecode_state {s t : State} {i : Instr} (h : fetchDecode s = .instr i t) :
    t = (s.setStarted true).setHookLog t.hookLog := by
  unfold fetchDecode at h
  dsimp only at h
  split at h <;> cases h <;> rfl

/-! ### With no read hooks -/

section
variable {s : State} (h : s.params.readHooks = [])
include h

theorem opcodeRead_noHooks : opcodeRead s = (s.byteAt s.pc, s.setStarted true) :=
  busRead_noHooks (s := s.setStarted true) s.pc h

theorem operandRead1_noHooks : operandRead1 s = (s.byteAt (s.pc + 1), s.setStarted true) := by
  rw [operandRead1, opcodeRead_noHooks h]
  exact busRead_noHooks (s := s.setStarted true) _ h

theorem operandRead2_noHooks : operandRead2 s = (s.byteAt (s.pc + 2), s.setStarted true) := by
  rw [operandRead2, operandRead1_noHooks h]
  exact busRead_noHooks (s := s.setStarted true) _ h

theorem stateAfterReads_noHooks (length : Nat) : stateAfterReads s length = s.setStarted true := by
  rw [stateAfterReads, opcodeRead_noHooks h, operandRead1_noHooks h, operandRead2_noHooks h, ite_self, ite_self]

end

/-! ### The step -/

/-- In a running state a step executes what the fetch gives. -/
theorem step_of_fetchDecode {s t : State} {i : Instr} (hrun : s.Running) (h : fetchDecode s = .instr i t) :
    step s = exec i t := by
  simp only [step, terminal_of_running hrun, h]

/-- Settles O7: the fetch is the decoder on the bytes that the bus reads give, and a step is the fetch and then `exec`. -/
theorem stepRunsTheDecodedInstruction : Obligations.StepRunsTheDecodedInstruction := by
  refine ⟨fun s t i hrun h => ⟨step_of_fetchDecode hrun h, fetchDecode_state h⟩,
    fun s i rest hrun hread h => ?_, fun s i rest hrun => ?_⟩
  · have hdecode : decode [(opcodeRead s).1, (operandRead1 s).1, (operandRead2 s).1] = .instr i rest := by
      rw [opcodeRead_noHooks hread, operandRead1_noHooks hread, operandRead2_noHooks hread]
      exact h
    rw [step_of_fetchDecode hrun (fetchDecode_of_decode hdecode), stateAfterReads_noHooks hread]
    rfl
  · rw [ofNat_toNat_add, ofNat_toNat_add]
    intro op b1 b2 h
    exact step_of_fetchDecode hrun (fetchDecode_of_decode h)

end Sys2Proof.Proofs
end

section
/-! PROOF. The encoder and the decoder as inverses, and the opcode map as the decoder's table: its cells, its illegal
bytes, and the lengths of the encodings (30_encoding R71 to R80). -/

namespace Sys2Proof.Proofs

open Sys2Proof Sys2Proof.Machine Sys2Proof.Claims

/-! ### The decoder is the inverse of the encoder -/

/-- Every instruction is a filled cell of the opcode map, whose opcode byte selects the form it comes from. -/
theorem form_statement : ∀ i : Instr, Laws.Form.Statement i :=
  open Laws in Instr.rec (motive := Form.Statement)
    Form.ldaImm Form.ldaZp Form.ldaZpx Form.ldaAbs Form.ldaAbsx Form.ldaAbsy Form.ldaIndx Form.ldaIndy
    Form.ldxImm Form.ldxZp Form.ldxZpy Form.ldxAbs Form.ldxAbsy Form.ldyImm Form.ldyZp Form.ldyZpx Form.ldyAbs
    Form.ldyAbsx Form.staZp Form.staZpx Form.staAbs Form.staAbsx Form.staAbsy Form.staIndx Form.staIndy
    Form.stxZp Form.stxZpy Form.stxAbs Form.styZp Form.styZpx Form.styAbs Form.tax Form.tay Form.txa Form.tya
    Form.tsx Form.txs Form.incZp Form.incZpx Form.incAbs Form.incAbsx Form.decZp Form.decZpx Form.decAbs
    Form.decAbsx Form.inx Form.iny Form.dex Form.dey Form.aslAcc Form.aslZp Form.aslZpx Form.aslAbs Form.aslAbsx
    Form.lsrAcc Form.lsrZp Form.lsrZpx Form.lsrAbs Form.lsrAbsx Form.rolAcc Form.rolZp Form.rolZpx Form.rolAbs
    Form.rolAbsx Form.rorAcc Form.rorZp Form.rorZpx Form.rorAbs Form.rorAbsx Form.andImm Form.andZp Form.andZpx
    Form.andAbs Form.andAbsx Form.andAbsy Form.andIndx Form.andIndy Form.oraImm Form.oraZp Form.oraZpx
    Form.oraAbs Form.oraAbsx Form.oraAbsy Form.oraIndx Form.oraIndy Form.eorImm Form.eorZp Form.eorZpx
    Form.eorAbs Form.eorAbsx Form.eorAbsy Form.eorIndx Form.eorIndy Form.cmpImm Form.cmpZp Form.cmpZpx
    Form.cmpAbs Form.cmpAbsx Form.cmpAbsy Form.cmpIndx Form.cmpIndy Form.cpxImm Form.cpxZp Form.cpxAbs
    Form.cpyImm Form.cpyZp Form.cpyAbs Form.bitZp Form.bitAbs Form.bcc Form.bcs Form.beq Form.bne Form.bmi
    Form.bpl Form.bvc Form.bvs Form.clc Form.sec Form.cli Form.sei Form.cld Form.sed Form.clv Form.pha Form.pla
    Form.php Form.plp Form.jmpAbs Form.jmpInd Form.jsr Form.rts Form.rti Form.brk Form.nop Form.adcImm Form.adcZp
    Form.adcZpx Form.adcAbs Form.adcAbsx Form.adcAbsy Form.adcIndx Form.adcIndy Form.sbcImm Form.sbcZp
    Form.sbcZpx Form.sbcAbs Form.sbcAbsx Form.sbcAbsy Form.sbcIndx Form.sbcIndy

/-- The opcode byte of an instruction selects a form that gives it back from its mode. -/
theorem formOf_opcode (i : Instr) : ∃ f, formOf i.opcode = some f ∧ f.withOperand i.mode = i := by
  obtain ⟨-, -, f, hform, hoperand, -⟩ := form_statement i
  exact ⟨f, hform, hoperand⟩

/-- A form's opcode byte with the operand bytes of any instruction it gives decodes to that instruction. -/
theorem decode_withOperand {op : Byte} {f : Form} (hform : formOf op = some f) (m : Mode) (rest : List Byte) :
    decode (op :: ((f.withOperand m).mode.operandBytes ++ rest)) = .instr (f.withOperand m) rest := by
  have hsound := formOf_sound hform
  cases f with
  | f1 i =>
    have hbytes : (Form.withOperand (.f1 i) m).mode.operandBytes = [] := hsound.2
    rw [hbytes]
    exact decode_f1 hform rest
  | f2 mk =>
    have hbytes : (Form.withOperand (.f2 mk) m).mode.operandBytes = [m.op8] := (hsound m.op8).2
    rw [hbytes]
    exact decode_f2 hform m.op8 rest
  | f3 mk =>
    have hbytes : (Form.withOperand (.f3 mk) m).mode.operandBytes = [loByte m.op16, hiByte m.op16] :=
      (hsound m.op16).2
    rw [hbytes]
    refine (decode_f3 hform (loByte m.op16) (hiByte m.op16) rest).trans ?_
    rw [wordOf_hi_lo]
    rfl

theorem decode_encode (i : Instr) (rest : List Byte) : decode (encode i ++ rest) = .instr i rest := by
  obtain ⟨f, hform, hoperand⟩ := formOf_opcode i
  have hdecode := decode_withOperand hform i.mode rest
  rwa [hoperand] at hdecode

theorem eq_encode_of_decode {bs : List Byte} {i : Instr} {rest : List Byte} (h : decode bs = .instr i rest) :
    bs = encode i ++ rest := by
  unfold decode at h
  split at h
  · cases h
  · next op bytes =>
    split at h
    · cases h
    · next hform =>
      cases h
      obtain ⟨hop, hbytes⟩ := formOf_sound hform
      rw [encode, hop, hbytes]
      rfl
    · next mk hform =>
      split at h
      · next b _ =>
        cases h
        obtain ⟨hop, hbytes⟩ := formOf_sound hform b
        rw [encode, hop, hbytes]
        rfl
      · cases h
    · next mk hform =>
      split at h
      · next lo hi _ =>
        cases h
        obtain ⟨hop, hbytes⟩ := formOf_sound hform (wordOf hi lo)
        rw [encode, hop, hbytes, loByte_wordOf, hiByte_wordOf]
        rfl
      · cases h

/-- Settles O1: the opcode byte selects the form, and the form reads its operand back. -/
theorem decodeOfEncodeIsTheInstruction : Obligations.DecodeOfEncodeIsTheInstruction :=
  decode_encode

/-- Settles O2: a form's opcode byte and operand bytes are those of the instruction it gives. -/
theorem encodeOfDecodeIsTheBytes : Obligations.EncodeOfDecodeIsTheBytes :=
  fun _ _ _ => eq_encode_of_decode

/-! ### The cells of the opcode map -/

/-- The cell of an instruction in the opcode map: mnemonic, mode and opcode byte. -/
def cellOf (i : Instr) : Mnemonic × ModeKind × Byte := (i.mnemonic, i.mode.kind, i.opcode)

/-- The cell that a row of the decoder's table fills, which no operand changes. -/
def rowCell (row : Byte × Form) : Mnemonic × ModeKind × Byte := cellOf (row.2.withOperand .imp)

/-- The decoder's table fills the cells of R76, each once. -/
theorem opcodeMap_perm_rowCells : opcodeMap.Perm (opcodeTable.map rowCell) := by decide +kernel

theorem opcodeMap_opcodes_nodup : (opcodeMap.map fun row => row.2.2).Nodup := by decide +kernel

theorem opcodeMap_mnemonics_kinds_nodup : (opcodeMap.map fun row => (row.1, row.2.1)).Nodup := by decide +kernel

theorem withOperand_opcode {row : Byte × Form} (hrow : row ∈ opcodeTable) (m : Mode) :
    (row.2.withOperand m).opcode = row.1 := by
  have hsound := opcodeTable_sound row hrow
  obtain ⟨op, f⟩ := row
  cases f with
  | f1 j => exact hsound.1
  | f2 mk => exact (hsound m.op8).1
  | f3 mk => exact (hsound m.op16).1

theorem cellOf_withOperand {row : Byte × Form} (hrow : row ∈ opcodeTable) (m : Mode) :
    cellOf (row.2.withOperand m) = rowCell row := by
  obtain ⟨hmnemonic, hkind⟩ := opcodeTable_uniform row hrow m
  rw [rowCell, cellOf, cellOf, hmnemonic, hkind, withOperand_opcode hrow, withOperand_opcode hrow]

theorem mem_opcodeTable_of_formOf {op : Byte} {f : Form} (h : formOf op = some f) : (op, f) ∈ opcodeTable := by
  obtain ⟨before, after, htable, -⟩ := List.lookup_eq_some_iff.1 h
  rw [htable]
  exact List.mem_append_right before List.mem_cons_self

theorem cellOf_mem_opcodeMap (i : Instr) : cellOf i ∈ opcodeMap := by
  obtain ⟨f, hform, hoperand⟩ := formOf_opcode i
  have hrow := mem_opcodeTable_of_formOf hform
  rw [← hoperand, cellOf_withOperand hrow, opcodeMap_perm_rowCells.mem_iff]
  exact List.mem_map_of_mem hrow

theorem exists_cellOf_of_mem_opcodeMap {cell : Mnemonic × ModeKind × Byte} (h : cell ∈ opcodeMap) :
    ∃ i, cellOf i = cell := by
  obtain ⟨row, -, rfl⟩ := List.mem_map.1 (opcodeMap_perm_rowCells.mem_iff.1 h)
  exact ⟨_, rfl⟩

theorem cellOf_eq_of_opcode_eq {i j : Instr} (h : i.opcode = j.opcode) : cellOf i = cellOf j :=
  List.inj_on_of_nodup_map opcodeMap_opcodes_nodup (cellOf_mem_opcodeMap i) (cellOf_mem_opcodeMap j) h

theorem cellOf_eq_of_mnemonic_kind_eq {i j : Instr} (hmnemonic : i.mnemonic = j.mnemonic)
    (hkind : i.mode.kind = j.mode.kind) : cellOf i = cellOf j :=
  List.inj_on_of_nodup_map opcodeMap_mnemonics_kinds_nodup (cellOf_mem_opcodeMap i) (cellOf_mem_opcodeMap j)
    (Prod.ext hmnemonic hkind)

theorem encode_length (i : Instr) : (encode i).length = lengthOfKind i.mode.kind :=
  (lengthOfKind_eq i.mode).symm

/-- Settles O3: the cells of R76 are those that the rows of the decoder's table fill. -/
theorem opcodeMapIsTheTableOfR76 : Obligations.OpcodeMapIsTheTableOfR76 := by
  refine ⟨cellOf_mem_opcodeMap, fun mn k op h => ?_, opcodeMap_opcodes_nodup, rfl⟩
  obtain ⟨i, hcell⟩ := exists_cellOf_of_mem_opcodeMap h
  cases hcell
  exact ⟨i, rfl, rfl, rfl⟩

/-- Settles O5: no two cells of the opcode map share an opcode byte, nor a mnemonic and a mode. -/
theorem opcodeFixesMnemonicModeAndLength : Obligations.OpcodeFixesMnemonicModeAndLength := by
  refine ⟨fun i j => ⟨fun hop => ?_, fun ⟨hmnemonic, hkind⟩ => ?_⟩, encode_length⟩
  · have hcell := cellOf_eq_of_opcode_eq hop
    exact ⟨congrArg (·.1) hcell, congrArg (·.2.1) hcell⟩
  · exact congrArg (·.2.2) (cellOf_eq_of_mnemonic_kind_eq hmnemonic hkind)

/-! ### Illegal bytes -/

theorem decode_eq_illegal_iff {op : Byte} {rest : List Byte} : decode (op :: rest) = .illegal op ↔ formOf op = none := by
  refine ⟨fun h => ?_, fun h => decode_none h rest⟩
  simp only [decode] at h
  split at h
  · assumption
  · cases h
  · split at h <;> cases h
  · split at h <;> cases h

/-- The decoder's table and R80 share out the 256 bytes. -/
theorem formOf_isNone_eq : ∀ op : Byte, (formOf op).isNone = decide (op ∈ illegalBytes) := by decide +kernel

/-- Settles O4: a byte decodes to no instruction exactly where the decoder's table has no row for it. -/
theorem theIllegalBytesAreThoseOfR80 : Obligations.TheIllegalBytesAreThoseOfR80 := by
  refine ⟨fun op rest => ?_, rfl⟩
  rw [decode_eq_illegal_iff, ← Option.isNone_iff_eq_none, formOf_isNone_eq, decide_eq_true_iff]

/-- Settles O6: each word is the encoding of its instruction. -/
theorem sampleWordsDecodeAsTheSpecSays : Obligations.SampleWordsDecodeAsTheSpecSays :=
  ⟨decode_encode (.ldaImm 0x42) [], decode_encode (.jmpInd 0x02FF) [], decode_encode (.bcc 0x0E) [],
    decode_encode (.rorZp 0x20) [], decode_encode (.bitZp 0x40) [], decode_encode .rti [],
    decode_encode (.adcImm 0x01) [], decode_encode (.decAbsx 0x02E5) []⟩

end Sys2Proof.Proofs
end

section
/-! PROOF. The size function of the decoded interface against the length of the mode that resolution chooses
(30_encoding R84 to R93). -/

namespace Sys2Proof.Proofs

open Sys2Proof Sys2Proof.Machine Sys2Proof.Claims

/-! ### What a resolution says of its parts -/

section
variable {y : Symbols} {mn : Mnemonic} {sm : SymMode} {k : ModeKind} {v : Int} {inRange : Bool}

theorem withLabel_eq_chosen {l : String} {f : Int → Resolved} (h : withLabel y l f = .chosen k v inRange) :
    ∃ w, y.labels.lookup l = some w ∧ f w = .chosen k v inRange := by
  unfold withLabel at h
  split at h
  · next w hw => exact ⟨w, hw, h⟩
  · cases h

theorem withConst_eq_chosen {n : String} {f : Int → Resolved} (h : withConst y n f = .chosen k v inRange) :
    ∃ w, f w = .chosen k v inRange := by
  unfold withConst at h
  split at h
  · exact ⟨_, h⟩
  · cases h

theorem withLiteral_eq_chosen {lit : Literal} {f : Int → Resolved} (h : withLiteral y lit f = .chosen k v inRange) :
    ∃ w, f w = .chosen k v inRange := by
  cases lit with
  | num n => exact ⟨n, h⟩
  | label l =>
    obtain ⟨w, -, hw⟩ := withLabel_eq_chosen h
    exact ⟨w, hw⟩

theorem zpOr_eq_chosen {hasZp : Bool} {zpKind absKind : ModeKind} {a : Int}
    (h : zpOr hasZp zpKind absKind a = .chosen k v inRange) :
    k = if hasZp && zpEligible a then zpKind else absKind := by
  cases h
  simp only [zpEligible, Bool.and_eq_true, decide_eq_true_eq, and_comm]

/-- What a decoded pair can be; an instruction or a branch has a chosen mode whose cell of the opcode map is filled. -/
theorem resolvePair_cases {p : DecodedPair} (h : resolvePair y mn sm = p) :
    p = .unsupported ∨ p = .outOfRange ∨ (∃ l, p = .unresolved l) ∨
      ∃ k v i, resolveMode y mn sm = .chosen k v true ∧ instrOf? mn (modeOf k v) = some i ∧
        p = if isBranch mn then .branch mn (BitVec.ofInt 16 v) else .instr i := by
  subst h
  unfold resolvePair
  split
  · next k v inRange hmode =>
    split
    · exact .inl rfl
    · next i hi =>
      cases inRange with
      | false => exact .inr (.inl rfl)
      | true => exact .inr (.inr (.inr ⟨k, v, i, hmode, hi, rfl⟩))
  · exact .inl rfl
  · next l _ => exact .inr (.inr (.inl ⟨l, rfl⟩))

theorem resolvePair_instr {i : Instr} (h : resolvePair y mn sm = .instr i) :
    ∃ k v, resolveMode y mn sm = .chosen k v true ∧ instrOf? mn (modeOf k v) = some i := by
  obtain hp | hp | ⟨l, hp⟩ | ⟨k, v, j, hmode, hj, hp⟩ := resolvePair_cases h
  · cases hp
  · cases hp
  · cases hp
  · split at hp
    · cases hp
    · cases hp
      exact ⟨k, v, hmode, hj⟩

theorem resolvePair_branch {b : Mnemonic} {a : Word} (h : resolvePair y mn sm = .branch b a) :
    isBranch mn = true ∧
      ∃ k v i, resolveMode y mn sm = .chosen k v true ∧ instrOf? mn (modeOf k v) = some i := by
  obtain hp | hp | ⟨l, hp⟩ | ⟨k, v, j, hmode, hj, hp⟩ := resolvePair_cases h
  · cases hp
  · cases hp
  · cases hp
  · split at hp
    · next hbranch => exact ⟨hbranch, k, v, j, hmode, hj⟩
    · cases hp

theorem supported_of_instrOf?_modeOf {i : Instr} (h : instrOf? mn (modeOf k v) = some i) : supported mn k = true := by
  rw [← instrOf?_modeOf_isSome mn k v, h]
  rfl

/-! ### The size of a chosen mode -/

theorem isJump_eq_false_of_isBranch (h : isBranch mn = true) : isJump mn = false := by
  revert h
  cases mn <;> decide

/-- Beside the jumps, whatever has an absolute form has a zero-page form (R76). -/
theorem supported_zp_of_abs (hjump : isJump mn = false) (h : supported mn .abs = true) : supported mn .zp = true := by
  revert hjump h
  cases mn <;> decide

theorem supported_zpx_of_absx (h : supported mn .absx = true) : supported mn .zpx = true := by
  revert h
  cases mn <;> decide

/-- Where the absolute form comes with the zero-page form, the zero-page test alone gives the length. -/
theorem lengthOfKind_zpOr {zpKind absKind : ModeKind} {a : Int}
    (hzp : lengthOfKind zpKind = 2) (habs : lengthOfKind absKind = 3)
    (hboth : supported mn absKind = true → supported mn zpKind = true)
    (h : zpOr (supported mn zpKind) zpKind absKind a = .chosen k v inRange) (hs : supported mn k = true) :
    (if zpEligible a then 2 else 3) = lengthOfKind k := by
  have hk := zpOr_eq_chosen h
  have hcell : supported mn zpKind = true := by
    split at hk
    · exact hk ▸ hs
    · exact hboth (hk ▸ hs)
  rw [hk, hcell, Bool.true_and, apply_ite lengthOfKind, hzp, habs]

/-- The size function gives the length of the mode that resolution chooses, where its cell is filled (R85, R93). -/
theorem symSize_eq_lengthOfKind (h : resolveMode y mn sm = .chosen k v inRange) (hs : supported mn k = true) :
    symSize mn sm (symEligible y.labels sm) = lengthOfKind k := by
  cases sm with
  | none =>
    cases h
    cases isShift mn <;> rfl
  | immediateByte b =>
    cases h
    rfl
  | immediate16Low lit | immediate16High lit =>
    obtain ⟨w, hw⟩ := withLiteral_eq_chosen h
    cases hw
    rfl
  | constantReference n | constantReferenceLower n | constantReferenceUpper n =>
    obtain ⟨w, hw⟩ := withConst_eq_chosen h
    cases hw
    rfl
  | direct l off =>
    obtain ⟨w, hlookup, hw⟩ := withLabel_eq_chosen h
    simp only [symSize, symEligible, hlookup]
    dsimp only at hw
    split at hw
    · next hbranch =>
      cases hw
      rw [isJump_eq_false_of_isBranch hbranch, hbranch]
      rfl
    · split at hw
      · next hjump =>
        cases hw
        rw [hjump]
        rfl
      · next hbranch hjump =>
        rw [if_neg hjump, if_neg hbranch]
        exact lengthOfKind_zpOr rfl rfl (supported_zp_of_abs (Bool.eq_false_of_not_eq_true hjump)) hw hs
  | directIndexedX l off =>
    obtain ⟨w, hlookup, hw⟩ := withLabel_eq_chosen h
    simp only [symSize, symEligible, hlookup]
    exact lengthOfKind_zpOr rfl rfl supported_zpx_of_absx hw hs
  | directIndexedY l off =>
    obtain ⟨w, hlookup, hw⟩ := withLabel_eq_chosen h
    simp only [symSize, symEligible, hlookup]
    rw [zpOr_eq_chosen hw, apply_ite lengthOfKind]
    rfl
  | indirectIndexedX l | indirectIndexedY l | indirectAbsolute l =>
    obtain ⟨w, -, hw⟩ := withLabel_eq_chosen h
    cases hw
    rfl
  | unrecognized => cases h

end

/-- Settles O60: the size is the length of the chosen mode, which is the mode of the instruction found; of a branch the
chosen mode is the relative one. -/
theorem sizeFunctionAgreesWithTheDecoder : Obligations.SizeFunctionAgreesWithTheDecoder := by
  refine ⟨fun y mn sm i h => ?_, fun y mn sm a h => ?_⟩
  · obtain ⟨k, v, hmode, hi⟩ := resolvePair_instr h
    obtain ⟨hmnemonic, himode⟩ := instrOf?_sound hi
    refine ⟨hmnemonic, ?_⟩
    rw [symSize_eq_lengthOfKind hmode (supported_of_instrOf?_modeOf hi), encode_length, himode, modeOf_kind]
  · obtain ⟨hbranch, k, v, i, hmode, hi⟩ := resolvePair_branch h
    have hs := supported_of_instrOf?_modeOf hi
    have hk : k = .rel := of_decide_eq_true ((isBranch_eq_of_supported hs).symm.trans hbranch)
    rw [symSize_eq_lengthOfKind hmode hs, hk]
    rfl

end Sys2Proof.Proofs
end

section
/-! PROOF. The host's actions on memory: each of them keeps its canonical form (40_execution_cycle R112). -/

namespace Sys2Proof.Proofs

open Sys2Proof Sys2Proof.Machine Sys2Proof.Claims

/-- Placing the bytes of an image one by one keeps memory canonical. -/
theorem foldl_put_wf (image : List (Word × Byte)) {m : Memory} (h : Memory.wf m = true) :
    Memory.wf (image.foldl (fun m q => Memory.put m q.1.toNat q.2) m) = true := by
  induction image generalizing m with
  | nil => exact h
  | cons q rest ih => exact ih (Memory.put_wf q.1 q.2 h)

theorem imageOf_wf (image : List (Word × Byte)) : Memory.wf (imageOf image) = true := foldl_put_wf image rfl

theorem create_inv (image : List (Word × Byte)) (params : Params) : (State.create image params).Inv := imageOf_wf image

theorem loadItem_inv (q : LoadItem) {s : State} (h : s.Inv) : (loadItem q s).Inv := by
  cases q with
  | byte addr v => exact Memory.put_wf addr v h
  | _ => exact h

/-- Of the service only the pushes write memory: the vector is read, and the rest is registers and the latch. -/
theorem takeNmi_mem (s : State) : (takeNmi s).mem = (push (pack s.p s.params.bPushNmi) (pushWord s.pc s)).mem := rfl

theorem pushWord_inv (w : Word) {s : State} (h : s.Inv) : (pushWord w s).Inv := push_inv _ (push_inv _ h)

theorem takeNmi_inv {s : State} (h : s.Inv) : (takeNmi s).Inv := by
  unfold State.Inv
  rw [takeNmi_mem]
  exact push_inv _ (pushWord_inv s.pc h)

theorem handleInterrupts_inv {s : State} (h : s.Inv) : (handleInterrupts s).Inv := by
  unfold handleInterrupts
  split
  · exact h
  · split
    · exact takeNmi_inv h
    · exact h

/-- A load that answers came before the first step and wrote its item. -/
theorem hostAct_load_next {q : LoadItem} {s t : State} (h : hostAct (.load q) s = .next t) :
    s.started = false ∧ t = loadItem q s := by
  simp only [hostAct] at h
  split at h
  · cases h
  · next hstarted =>
    cases h
    exact ⟨Bool.eq_false_of_not_eq_true hstarted, rfl⟩

/-- Settles O56: a new core holds an image placed byte by byte, a step and a decoded pair keep their frame, and the other
actions write at most one byte or are the service. -/
theorem everyHostActionKeepsMemoryCanonical : Obligations.EveryHostActionKeepsMemoryCanonical := by
  intro act s t hinv h
  cases act with
  | create image params =>
    cases h
    exact create_inv image params
  | reset | triggerNmi | snapshot =>
    cases h
    exact hinv
  | load q =>
    obtain ⟨-, rfl⟩ := hostAct_load_next h
    exact loadItem_inv q hinv
  | step => exact (step_stepFrame h).inv hinv
  | executeDecoded y mn sm => exact (executeDecoded_stepFrame h).inv hinv
  | handleInterrupts =>
    cases h
    exact handleInterrupts_inv hinv

end Sys2Proof.Proofs
end

section
/-! PROOF. Which bytes of memory an instruction can change: none but by a store, a read-modify-write or a push
(40_execution_cycle R103 to R106). -/

namespace Sys2Proof.Proofs

open Sys2Proof Sys2Proof.Machine Sys2Proof.Claims

/-! ### The instructions that store nothing -/

theorem OperandAction.mem {mn : Mnemonic} {f : Byte → State → State} (hf : OperandAction mn f) (m : Byte) (s : State) :
    (f m s).mem = s.mem := by
  cases hf with
  | adc => exact adcOperand_mem m s
  | sbc => exact sbcOperand_mem m s
  | _ => rfl

/-- The mnemonics that write memory in every form (40_execution_cycle R104, R105; 20_memory R59). -/
def writersOfMemory : List Mnemonic := [.STA, .STX, .STY, .INC, .DEC, .PHA, .PHP, .JSR]

/-- The mnemonics that write memory in all forms but that on the accumulator (40_execution_cycle R104). -/
def shiftsAndRotates : List Mnemonic := [.ASL, .LSR, .ROL, .ROR]

theorem ImpliedAction.mem {mn : Mnemonic} {f : State → State} (hf : ImpliedAction mn f) (hmn : mn ∉ writersOfMemory)
    (s : State) : (f s).mem = s.mem := by
  cases hf with
  | pha | php => exact absurd (by decide) hmn
  | pla | plp => exact pull_mem s
  | _ => rfl

theorem returnFromInterrupt_mem (s : State) : (returnFromInterrupt s).mem = s.mem := by
  rw [returnFromInterrupt, State.setPC_mem, pullWord_mem, State.setP_mem, pull_mem]

theorem ControlAction.mem {mn : Mnemonic} {md : Mode} {f : State → State} (hf : ControlAction mn md f)
    (hmn : mn ∉ writersOfMemory) (s : State) : (f s).mem = s.mem := by
  cases hf with
  | jmpAbs | brk => rfl
  | jmpInd a => exact read16Bug_mem a s
  | jsr => exact absurd (by decide) hmn
  | rts => exact pullWord_mem s
  | rti => exact returnFromInterrupt_mem s

theorem StoreAction.mem_writersOfMemory {mn : Mnemonic} {r : State → Byte} (hr : StoreAction mn r) :
    mn ∈ writersOfMemory := by
  cases hr <;> decide

theorem ModifyAction.mem_writersOfMemory_or {mn : Mnemonic} {f : Byte → Flags → Byte × Flags} (hf : ModifyAction mn f) :
    mn ∈ writersOfMemory ∨ mn ∈ shiftsAndRotates := by
  cases hf <;> decide

/-- An instruction that does not write memory leaves the cells as they are. -/
theorem exec_mem {i : Instr} {s t : State} (h : exec i s = .next t) (hmn : i.mnemonic ∉ writersOfMemory)
    (hacc : i.mnemonic ∈ shiftsAndRotates → i.mode = .acc) : t.mem = s.mem := by
  cases exec_shape i s with
  | @operand o f hf he =>
    cases he.symm.trans h
    rw [advance_mem, hf.mem, readOperand_mem]
  | store hr => exact absurd hr.mem_writersOfMemory hmn
  | modify hf _ hmode =>
    rcases hf.mem_writersOfMemory_or with hwrites | hshift
    · exact absurd hwrites hmn
    · cases hmode.symm.trans (hacc hshift)
  | accumulator _ he =>
    cases he.symm.trans h
    rfl
  | implied hf he =>
    cases he.symm.trans h
    rw [advance_mem]
    exact hf.mem hmn s
  | branch he =>
    cases he.symm.trans h
    rfl
  | control hf he =>
    cases he.symm.trans h
    exact hf.mem hmn s

/-- Settles O43: only stores, read-modify-writes and pushes write memory. -/
theorem memoryFrameOfTheNonStoringInstructions : Obligations.MemoryFrameOfTheNonStoringInstructions := by
  intro i s t h hmn hacc a
  exact congrArg (Memory.get · a.toNat) (exec_mem h hmn hacc)

/-! ### Stores and read-modify-writes -/

/-- The mnemonics that store to the effective address or modify the byte there (40_execution_cycle R104, R105). -/
def storesAndModifications : List Mnemonic := [.STA, .STX, .STY, .INC, .DEC, .ASL, .LSR, .ROL, .ROR]

theorem OperandAction.not_mem_storesAndModifications {mn : Mnemonic} {f : Byte → State → State}
    (hf : OperandAction mn f) : mn ∉ storesAndModifications := by
  cases hf <;> decide

theorem ControlAction.not_mem_storesAndModifications {mn : Mnemonic} {md : Mode} {f : State → State}
    (hf : ControlAction mn md f) : mn ∉ storesAndModifications := by
  cases hf <;> decide

/-- With a memory mode, those mnemonics are a store or a read-modify-write at that mode's address. -/
theorem exec_eq_store_or_modify {i : Instr} {m : AddrMode} (s : State) (hmn : i.mnemonic ∈ storesAndModifications)
    (hmode : i.mode = .mem m) :
    (∃ r, StoreAction i.mnemonic r ∧ exec i s = storeByte m (r s) s) ∨
      ∃ f, ModifyAction i.mnemonic f ∧ exec i s = modifyByte m f s := by
  cases exec_shape i s with
  | operand hf => exact absurd hmn hf.not_mem_storesAndModifications
  | store hr he hm =>
    cases hm.symm.trans hmode
    exact .inl ⟨_, hr, he⟩
  | modify hf he hm =>
    cases hm.symm.trans hmode
    exact .inr ⟨_, hf, he⟩
  | accumulator _ _ hm | implied _ _ hm | branch _ hm => cases hm.symm.trans hmode
  | control hf => exact absurd hmn hf.not_mem_storesAndModifications

theorem ModifyAction.not_store {mn : Mnemonic} {f : Byte → Flags → Byte × Flags} (hf : ModifyAction mn f) :
    mn ∉ [.STA, .STX, .STY] := by
  cases hf <;> decide

/-- The register that a store writes, by its mnemonic. -/
theorem StoreAction.register_eq {mn : Mnemonic} {r : State → Byte} (hr : StoreAction mn r) (s : State) :
    r s = if mn = .STA then s.a else if mn = .STX then s.x else s.y := by
  cases hr <;> rfl

/-- Settles O44: each is one write at the effective address. -/
theorem memoryFrameOfStoresAndModifications : Obligations.MemoryFrameOfStoresAndModifications := by
  refine ⟨fun i m s t hinv hmn hmode h a ha => ?_, fun i m s hinv hwrite hmode hmn => ?_⟩
  · obtain ⟨r, -, he⟩ | ⟨f, -, he⟩ := exec_eq_store_or_modify s hmn hmode
    · exact storeByte_byteAt_other hinv (he.symm.trans h) ha
    · exact modifyByte_byteAt_other hinv (he.symm.trans h) ha
  · have hmn' : i.mnemonic ∈ storesAndModifications := List.mem_append_left _ hmn
    obtain ⟨r, hr, he⟩ | ⟨f, hf, -⟩ := exec_eq_store_or_modify s hmn' hmode
    · rw [he, ← hr.register_eq s]
      exact storeByte_byteAt_self m (r s) hinv hwrite
    · exact absurd hmn hf.not_store

end Sys2Proof.Proofs
end

section
/-! PROOF. Where a step and the service are enabled, and what an operand read is (40_execution_cycle R97, R103). -/

namespace Sys2Proof.Proofs

open Sys2Proof Sys2Proof.Machine Sys2Proof.Claims

/-! ### Terminal states -/

section
variable {s : State}

/-- A recorded fault is named first. -/
theorem terminal_of_fault {k : FaultKind} (h : s.fault = some k) : terminal s = some (.recorded k) := by
  simp only [terminal, h]

theorem terminal_of_halted (hfault : s.fault = none) (hhalted : s.halted = true) : terminal s = some .halted := by
  simp only [terminal, hfault, hhalted, if_true]

theorem step_of_terminal {f : Fault} (h : terminal s = some f) : step s = .fault f := by
  simp only [step, h]

theorem handleInterrupts_of_terminal {f : Fault} (h : terminal s = some f) : handleInterrupts s = s := by
  simp only [handleInterrupts, h]

/-! ### Running states -/

/-- Every instruction answers a next state in every state. -/
theorem exec_total (i : Instr) (s : State) : ∃ t, exec i s = .next t := by
  cases exec_shape i s with
  | operand _ he | store _ he | modify _ he | accumulator _ he | implied _ he | branch he | control _ he =>
    exact ⟨_, he⟩

theorem illegalOpcode_total (op : Byte) (s : State) : ∃ t, illegalOpcode op s = .next t := by
  unfold illegalOpcode
  split <;> exact ⟨_, rfl⟩

theorem step_of_illegal {u : State} {op : Byte} (hrun : s.Running) (h : fetchDecode s = .illegal op u) :
    step s = illegalOpcode op u := by
  simp only [step, terminal_of_running hrun, h]

/-- A running state has a step, whatever the fetch gives. -/
theorem step_total (hrun : s.Running) : ∃ t, step s = .next t := by
  cases hfetch : fetchDecode s with
  | instr i u =>
    rw [step_of_fetchDecode hrun hfetch]
    exact exec_total i u
  | illegal op u =>
    rw [step_of_illegal hrun hfetch]
    exact illegalOpcode_total op u

end

/-- Settles O8: a terminal state stops the step and the service, and in a running state every fetch leads to a next
state. -/
theorem noStepAndNoServiceInATerminalState : Obligations.NoStepAndNoServiceInATerminalState := by
  refine ⟨fun s k hfault => ?_, fun s hfault hhalted => ?_, fun s hrun => step_total hrun⟩
  · have hterminal := terminal_of_fault hfault
    exact ⟨step_of_terminal hterminal, handleInterrupts_of_terminal hterminal⟩
  · have hterminal := terminal_of_halted hfault hhalted
    exact ⟨step_of_terminal hterminal, handleInterrupts_of_terminal hterminal⟩

/-! ### The operand read -/

/-- Settles O17: an operand read of a memory mode is by definition the resolution of its address and one bus read, and
both only add to the log of hook calls. -/
theorem operandReadIsTheByteOrOneBusRead : Obligations.OperandReadIsTheByteOrOneBusRead :=
  ⟨fun _ _ => rfl, fun _ _ => rfl, effAddr_state, readOperand_state, fun m _ => readOperand_noHooks m⟩

end Sys2Proof.Proofs
end

section
/-! PROOF. The resolution of a decoded pair by R84 and its execution without a fetch (30_encoding R84, R88,
40_execution_cycle R110). -/

namespace Sys2Proof.Proofs

open Sys2Proof Sys2Proof.Machine Sys2Proof.Claims

/-! ### The words of R84 against the model's -/

theorem supported_mnemonic_kind (i : Instr) : supported i.mnemonic i.mode.kind = true := (form_statement i).1

theorem exists_instr_of_supported {mn : Mnemonic} {k : ModeKind} (h : supported mn k = true) :
    ∃ i : Instr, i.mnemonic = mn ∧ i.mode.kind = k := by
  rw [← instrOf?_modeOf_isSome mn k 0] at h
  obtain ⟨i, hi⟩ := Option.isSome_iff_exists.1 h
  obtain ⟨hmnemonic, hmode⟩ := instrOf?_sound hi
  exact ⟨i, hmnemonic, by rw [hmode, modeOf_kind]⟩

/-- The columns of R76 are the model's table of modes: both hold the mnemonic and mode of each instruction, and no more. -/
theorem hasCell_eq_supported (mn : Mnemonic) (k : ModeKind) : hasCell mn k = supported mn k := by
  rw [Bool.eq_iff_iff, hasCell, List.any_eq_true]
  constructor
  · rintro ⟨cell, hcell, heq⟩
    obtain ⟨hmnemonic, hkind⟩ := of_decide_eq_true heq
    obtain ⟨i, rfl⟩ := exists_cellOf_of_mem_opcodeMap hcell
    rw [← hmnemonic, ← hkind]
    exact supported_mnemonic_kind i
  · intro h
    obtain ⟨i, hmnemonic, hkind⟩ := exists_instr_of_supported h
    exact ⟨cellOf i, cellOf_mem_opcodeMap i, decide_eq_true ⟨hmnemonic, hkind⟩⟩

theorem isShift_iff {mn : Mnemonic} : isShift mn = true ↔ mn ∈ [Mnemonic.ASL, .LSR, .ROL, .ROR] := by
  cases mn <;> decide

theorem isBranch_iff {mn : Mnemonic} :
    isBranch mn = true ↔ mn ∈ [Mnemonic.BCC, .BCS, .BEQ, .BNE, .BMI, .BPL, .BVC, .BVS] := by
  cases mn <;> decide

theorem isJump_iff {mn : Mnemonic} : isJump mn = true ↔ mn ∈ [Mnemonic.JMP, .JSR] := by
  cases mn <;> decide

theorem hasZpy_iff {mn : Mnemonic} : hasZpy mn = true ↔ mn ∈ [Mnemonic.LDX, .STX] := by
  cases mn <;> decide

theorem writesPc_iff {mn : Mnemonic} : writesPc mn = true ↔ mn ∈ [Mnemonic.JMP, .JSR, .RTS, .RTI] := by
  cases mn <;> decide

/-! ### The mode that resolution chooses -/

section
variable {y : Symbols} {mn : Mnemonic} {sm : SymMode} {k : ModeKind} {v : Int} {inRange : Bool}

theorem withLabel_of_some {l : String} {f : Int → Resolved} (h : y.labels.lookup l = some v) : withLabel y l f = f v := by
  simp only [withLabel, h]

theorem withLabel_of_none {l : String} {f : Int → Resolved} (h : y.labels.lookup l = none) :
    withLabel y l f = .unresolved l := by
  simp only [withLabel, h]

theorem withConst_of_some {n : String} {f : Int → Resolved} (h : y.consts.lookup n = some v) : withConst y n f = f v := by
  simp only [withConst, h]

theorem withConst_of_none {n : String} {f : Int → Resolved} (h : y.consts.lookup n = none) :
    withConst y n f = .unresolved n := by
  simp only [withConst, h]

/-- A name without a value is what resolution reports, whatever the mnemonic (R82, R243). -/
theorem resolveMode_of_no_value (h : valueOf y sm = none) : resolveMode y mn sm = .unresolved (nameOf sm) := by
  cases sm with
  | none | unrecognized | immediateByte b => cases h
  | immediate16Low lit | immediate16High lit =>
    cases lit with
    | num n => cases h
    | label l => exact withLabel_of_none h
  | constantReference n | constantReferenceLower n | constantReferenceUpper n => exact withConst_of_none h
  | direct l off | directIndexedX l off | directIndexedY l off => exact withLabel_of_none (Option.map_eq_none_iff.1 h)
  | indirectIndexedX l | indirectIndexedY l | indirectAbsolute l => exact withLabel_of_none h

theorem resolveMode_of_no_kind (h : kindOf mn v sm = none) : resolveMode y mn sm = .noMode := by
  cases sm with
  | unrecognized => rfl
  | _ => cases h

/-- The choice of R84 for a label with an offset and no index. -/
theorem kindOf_direct (mn : Mnemonic) (v : Int) (l : String) (off : Option Int) :
    kindOf mn v (.direct l off) =
      some (if isBranch mn = true then .rel else if isJump mn = true then .abs
        else if v < 256 ∧ supported mn .zp = true then .zp else .abs) := by
  simp only [kindOf, isBranch_iff, isJump_iff, hasCell_eq_supported]

/-- Where the name has a value, the mode, the operand and its range are the columns of R84. -/
theorem resolveMode_of_value (hv : valueOf y sm = some v) (hk : kindOf mn v sm = some k) :
    resolveMode y mn sm = .chosen k (operandOf v sm) (inRangeOf v sm) := by
  cases sm with
  | none =>
    cases hv
    cases hk
    simp only [resolveMode, isShift_iff, operandOf, inRangeOf]
  | immediateByte b =>
    cases hv
    cases hk
    rfl
  | immediate16Low lit | immediate16High lit =>
    cases hk
    cases lit with
    | num n =>
      cases hv
      rfl
    | label l => exact withLabel_of_some hv
  | constantReference n | constantReferenceLower n | constantReferenceUpper n =>
    cases hk
    exact withConst_of_some hv
  | direct l off =>
    obtain ⟨w, hw, rfl⟩ := Option.map_eq_some_iff.1 hv
    rw [kindOf_direct] at hk
    cases hk
    refine (withLabel_of_some hw).trans ?_
    dsimp only
    split
    · rfl
    · split <;> rfl
  | directIndexedX l off =>
    obtain ⟨w, hw, rfl⟩ := Option.map_eq_some_iff.1 hv
    cases hk
    rw [hasCell_eq_supported]
    exact withLabel_of_some hw
  | directIndexedY l off =>
    obtain ⟨w, hw, rfl⟩ := Option.map_eq_some_iff.1 hv
    cases hk
    simp only [← hasZpy_iff]
    exact withLabel_of_some hw
  | indirectIndexedX l | indirectIndexedY l | indirectAbsolute l =>
    cases hk
    exact withLabel_of_some hv
  | unrecognized => cases hk

/-- Only a label alone is chosen for the relative mode, and its operand is its value. -/
theorem operandOf_of_kindOf_rel (h : kindOf mn v sm = some .rel) : operandOf v sm = v := by
  cases sm with
  | immediate16Low | immediate16High | constantReferenceLower | constantReferenceUpper | unrecognized => cases h
  | _ => rfl

/-! ### The pair of a chosen mode -/

theorem resolvePair_of_unresolved {l : String} (h : resolveMode y mn sm = .unresolved l) :
    resolvePair y mn sm = .unresolved l := by
  simp only [resolvePair, h]

theorem resolvePair_of_noMode (h : resolveMode y mn sm = .noMode) : resolvePair y mn sm = .unsupported := by
  simp only [resolvePair, h]

/-- An empty cell is unsupported whatever the value (R88). -/
theorem resolvePair_of_not_supported (h : resolveMode y mn sm = .chosen k v inRange) (hs : supported mn k = false) :
    resolvePair y mn sm = .unsupported := by
  have hnone : instrOf? mn (modeOf k v) = none := by
    rw [← Option.isNone_iff_eq_none, ← Option.not_isSome, instrOf?_modeOf_isSome, hs]
    rfl
  simp only [resolvePair, h, hnone]

/-- A filled cell gives its instruction, once the value is in range, or the branch in the relative column. -/
theorem resolvePair_of_supported (h : resolveMode y mn sm = .chosen k v inRange) (hs : supported mn k = true) :
    ∃ i, instrOf? mn (modeOf k v) = some i ∧
      resolvePair y mn sm =
        if inRange then (if k = .rel then .branch mn (BitVec.ofInt 16 v) else .instr i) else .outOfRange := by
  have hsome : (instrOf? mn (modeOf k v)).isSome = true := by rw [instrOf?_modeOf_isSome, hs]
  obtain ⟨i, hi⟩ := Option.isSome_iff_exists.1 hsome
  refine ⟨i, hi, ?_⟩
  simp only [resolvePair, h, hi, isBranch_eq_of_supported hs, decide_eq_true_eq]

/-- The operand bytes of a mode are the low bytes of its value, as many as its length calls for. -/
theorem modeOf_operandBytes (k : ModeKind) (v : Int) :
    (modeOf k v).operandBytes = List.take (lengthOfKind k - 1) [BitVec.ofInt 8 v, BitVec.ofInt 8 (v / 256)] := by
  rw [← loByte_ofInt, ← hiByte_ofInt]
  cases k
  case imm | zp | zpx | zpy | indx | indy | rel => exact congrArg (fun b => [b]) (loByte_ofInt v).symm
  all_goals rfl

end

/-! ### The execution of a pair -/

section
variable {y : Symbols} {mn : Mnemonic} {sm : SymMode} {s : State}

theorem keepPc_eq (mn : Mnemonic) (pc : Word) (t : State) :
    keepPc mn pc t = if mn ∈ [Mnemonic.JMP, .JSR, .RTS, .RTI] then t else { t with pc := pc } := by
  rw [keepPc]
  simp only [writesPc_iff]
  rfl

variable (hrun : s.Running)
include hrun

theorem executeDecoded_of_instr {i : Instr} {t : State} (hpair : resolvePair y mn sm = .instr i)
    (hexec : exec i (s.setStarted true) = .next t) : executeDecoded y mn sm s = .next (keepPc mn s.pc t) := by
  simp only [executeDecoded, terminal_of_running hrun, hpair, hexec]

/-- A branch and an unsupported pair leave the started bit behind and nothing else. -/
theorem executeDecoded_of_branch_or_unsupported
    (hpair : (∃ a, resolvePair y mn sm = .branch mn a) ∨ resolvePair y mn sm = .unsupported) :
    executeDecoded y mn sm s = .next (s.setStarted true) := by
  obtain ⟨a, hpair⟩ | hpair := hpair
  all_goals simp only [executeDecoded, terminal_of_running hrun, hpair]

theorem executeDecoded_of_outOfRange (hpair : resolvePair y mn sm = .outOfRange) :
    executeDecoded y mn sm s = .refused .valueOutOfRange := by
  simp only [executeDecoded, terminal_of_running hrun, hpair]

end

/-- Settles O58: the mode, operand and range are the columns of R84, the pair is the cell of that mode, and its execution
is `exec` with PC put back. -/
theorem decodedExecutionRunsTheInstructionWithoutMovingPc :
    Obligations.DecodedExecutionRunsTheInstructionWithoutMovingPc := by
  refine ⟨fun y mn sm => ?_, fun y mn sm i s hrun hpair => ?_,
    fun y mn sm s hrun hpair => executeDecoded_of_branch_or_unsupported hrun hpair,
    fun y mn sm s hrun hpair => executeDecoded_of_outOfRange hrun hpair⟩
  · split
    · next hvalue => exact resolvePair_of_unresolved (resolveMode_of_no_value hvalue)
    · next v hvalue =>
      split
      · next hkind => exact resolvePair_of_noMode (resolveMode_of_no_kind hkind)
      · next k hkind =>
        have hmode := resolveMode_of_value hvalue hkind
        rw [hasCell_eq_supported]
        split
        · next hempty => exact resolvePair_of_not_supported hmode hempty
        · next hfilled =>
          obtain ⟨i, hi, hpair⟩ := resolvePair_of_supported hmode (Bool.eq_true_of_not_eq_false hfilled)
          rw [hpair]
          split
          · next hrange => rw [hrange]; rfl
          · next hrange =>
            rw [Bool.eq_true_of_not_eq_false hrange, if_pos rfl]
            split
            · next hrel =>
              subst hrel
              rw [operandOf_of_kindOf_rel hkind]
            · obtain ⟨hmnemonic, himode⟩ := instrOf?_sound hi
              exact ⟨i, rfl, hmnemonic, by rw [himode, modeOf_kind], by rw [himode, modeOf_operandBytes]⟩
  · obtain ⟨t, hexec⟩ := exec_total i (s.setStarted true)
    refine ⟨t, hexec, ?_⟩
    rw [executeDecoded_of_instr hrun hpair hexec, keepPc_eq]

end Sys2Proof.Proofs
end

section
/-! PROOF. The effective addresses of the memory modes, as numbers (41_addressing_modes R119 to R126). -/

namespace Sys2Proof.Proofs

open Sys2Proof Sys2Proof.Machine Sys2Proof.Claims

/-! ### The direct modes -/

theorem wordOf_zero_toNat (p : Byte) : (wordOf 0 p).toNat = p.toNat := by
  simp [wordOf_toNat]

/-- A zero-page address with an index wraps within page 0. -/
theorem wordOf_zero_add_toNat (a b : Byte) : (wordOf 0 (a + b)).toNat = (a.toNat + b.toNat) % 256 := by
  rw [wordOf_zero_toNat, BitVec.toNat_add]

/-- A 16-bit address with an index wraps at 65536. -/
theorem add_wordOf_zero_toNat (a : Word) (b : Byte) : (a + wordOf 0 b).toNat = (a.toNat + b.toNat) % 65536 := by
  rw [BitVec.toNat_add, wordOf_zero_toNat]

/-- Settles O15: the index is added within page 0 for a one-byte operand and within 16 bits for a two-byte one, and the
state that `effAddr` answers is the one it was given. -/
theorem effectiveAddressesOfTheDirectModes : Obligations.EffectiveAddressesOfTheDirectModes :=
  fun s => ⟨fun a => ⟨wordOf_zero_toNat a, rfl⟩, fun a => ⟨wordOf_zero_add_toNat a s.x, rfl⟩,
    fun a => ⟨wordOf_zero_add_toNat a s.y, rfl⟩, fun _ => rfl, fun a => ⟨add_wordOf_zero_toNat a s.x, rfl⟩,
    fun a => ⟨add_wordOf_zero_toNat a s.y, rfl⟩⟩

/-! ### The page-0 pointer modes -/

/-- The page-0 address of a number is the number modulo 256. -/
theorem wordOf_zero_ofNat (n : Nat) : wordOf 0 (BitVec.ofNat 8 n) = BitVec.ofNat 16 (n % 256) := by
  rw [wordOf_zero, BitVec.toNat_ofNat]

/-- With no read hooks the pointer at a page-0 address is its two bytes in memory, the high one after the page-0 wrap. -/
theorem read16ZP_toNat_of_noHooks (n : Nat) {s : State} (h : s.params.readHooks = []) :
    (read16ZP (BitVec.ofNat 8 n) s).1.toNat =
      (s.byteAt (BitVec.ofNat 16 ((n + 1) % 256))).toNat * 256 + (s.byteAt (BitVec.ofNat 16 (n % 256))).toNat := by
  have hnext : BitVec.ofNat 8 n + 1 = BitVec.ofNat 8 (n + 1) := (BitVec.ofNat_add n 1).symm
  rw [read16ZP, readPair_noHooks _ _ h, wordOf_toNat, hnext, wordOf_zero_ofNat, wordOf_zero_ofNat]

/-- (zp,X) reads its pointer at the operand plus X, which wraps within page 0 (R125). -/
theorem effAddr_indx (a : Byte) (s : State) :
    effAddr (.indx a) s = read16ZP (BitVec.ofNat 8 (a.toNat + s.x.toNat)) s := by
  rw [ofNat_toNat_add, BitVec.ofNat_toNat, BitVec.setWidth_eq]
  rfl

/-- (zp),Y reads its pointer at the operand (R126), and adds Y within 16 bits. -/
theorem effAddr_indy_toNat (a : Byte) (s : State) :
    (effAddr (.indy a) s).1.toNat = ((read16ZP (BitVec.ofNat 8 a.toNat) s).1.toNat + s.y.toNat) % 65536 := by
  rw [BitVec.ofNat_toNat, BitVec.setWidth_eq]
  exact add_wordOf_zero_toNat _ s.y

/-- Settles O16: both modes are one `Read16ZP`, which without hooks is two bytes of page 0. -/
theorem effectiveAddressesOfTheIndirectModes : Obligations.EffectiveAddressesOfTheIndirectModes := by
  refine ⟨fun a s => ⟨effAddr_indx a s, ?_⟩, fun a s h => ⟨?_, effAddr_noHooks _ h, ?_, effAddr_noHooks _ h⟩⟩
  · rw [← wordOf_zero]
    rfl
  · rw [effAddr_indx]
    exact read16ZP_toNat_of_noHooks _ h
  · rw [effAddr_indy_toNat, read16ZP_toNat_of_noHooks _ h]

end Sys2Proof.Proofs
end

section
/-! PROOF. The ALU: binary subtraction as addition of the complement, decimal arithmetic on valid BCD, and which flag is
written under which mnemonic (42_alu_and_flags R138 to R140, R152). -/

namespace Sys2Proof.Proofs

open Sys2Proof Sys2Proof.Machine Sys2Proof.Claims

/-! ### Binary subtraction -/

/-- In binary mode subtracting a byte is adding its complement (42_alu_and_flags R138). -/
theorem sbcOperand_eq_adcOperand_not {s : State} (h : (s.p.d && s.params.decimalEnabled) = false) (m : Byte) :
    sbcOperand m s = adcOperand (~~~m) s := by
  have hbinary := Bool.eq_false_iff.1 h
  rw [sbcOperand, adcOperand, if_neg hbinary, if_neg hbinary]
  rfl

/-- Settles O39: both instructions are their operation on A and then the same advance of PC. -/
theorem binarySbcIsAdcOfTheComplement : Obligations.BinarySbcIsAdcOfTheComplement := by
  intro b s h
  refine ⟨advance 2 (adcOperand (~~~b) s), ?_, rfl⟩
  rw [← sbcOperand_eq_adcOperand_not h]
  rfl

/-! ### Decimal digits -/

/-- The column rule of decimal addition: past 9, adding 6 gives the digit modulo 10 in the nibble (R139). -/
theorem addDigit_eq_mod_ten {s : Nat} (h : s ≤ 19) : (if s > 9 then s + 6 else s) % 16 = s % 10 := by
  split <;> omega

/-- The column rule of decimal subtraction: below 0, taking 6 away gives the digit modulo 10 in the nibble (R140). -/
theorem subDigit_eq_mod_ten {d : Int} (h : -10 ≤ d ∧ d ≤ 9) : (if d < 0 then d - 6 else d) % 16 = d % 10 := by
  split <;> omega

/-- A byte of two decimal digits is valid BCD and has their value. -/
theorem validBcd_ofNat {hi lo : Nat} (hhi : hi ≤ 9) (hlo : lo ≤ 9) :
    validBcd (BitVec.ofNat 8 (hi * 16 + lo)) ∧ bcdValue (BitVec.ofNat 8 (hi * 16 + lo)) = 10 * hi + lo := by
  have htoNat : (BitVec.ofNat 8 (hi * 16 + lo)).toNat = hi * 16 + lo := by
    rw [BitVec.toNat_ofNat]
    omega
  simp only [validBcd, bcdValue, htoNat]
  omega

/-- The same with the digits as integers. -/
theorem validBcd_ofInt {hi lo : Int} (hhi : 0 ≤ hi ∧ hi ≤ 9) (hlo : 0 ≤ lo ∧ lo ≤ 9) :
    validBcd (BitVec.ofInt 8 (hi * 16 + lo)) ∧ (bcdValue (BitVec.ofInt 8 (hi * 16 + lo)) : Int) = 10 * hi + lo := by
  lift hi to Nat using hhi.1
  lift lo to Nat using hlo.1
  have hbyte : BitVec.ofInt 8 ((hi : Int) * 16 + lo) = BitVec.ofNat 8 (hi * 16 + lo) := by
    exact_mod_cast BitVec.ofInt_natCast 8 (hi * 16 + lo)
  obtain ⟨hvalid, hvalue⟩ := validBcd_ofNat (hi := hi) (lo := lo) (by omega) (by omega)
  rw [hbyte, hvalue]
  exact ⟨hvalid, by push_cast; rfl⟩

/-! ### Decimal addition and subtraction -/

/-- `adc_dec` by its two column sums, each at most 19: the digits modulo 10, and the carry as the quotient (R139). -/
theorem adcDec_of_columns {a m : Byte} {c : Bool} {lo hi : Nat} (hlo : loNibble a + loNibble m + c.toNat = lo)
    (hhi : hiNibble a + hiNibble m + lo / 10 = hi) (hlo19 : lo ≤ 19) (hhi19 : hi ≤ 19) (n v : Bool) :
    (adcDec a m c n v).r = BitVec.ofNat 8 (hi % 10 * 16 + lo % 10) ∧ (adcDec a m c n v).c.toNat = hi / 10 := by
  have hcarry : (if lo > 9 then 1 else 0) = lo / 10 := by split <;> omega
  have hcarryOut : (decide (hi > 9)).toNat = hi / 10 := by
    rw [Bool.toNat, Bool.cond_decide]
    split <;> omega
  simp only [adcDec, hlo, hcarry, hhi, addDigit_eq_mod_ten hlo19, addDigit_eq_mod_ten hhi19,
    hcarryOut, and_self]

/-- `sbc_dec` by its two column differences, each at least -10: the digits modulo 10, and the borrow as the negated
quotient (R140). -/
theorem sbcDec_of_columns {a m : Byte} {c : Bool} {lo hi : Int}
    (hlo : (loNibble a : Int) - loNibble m - (1 - (c.toNat : Int)) = lo)
    (hhi : (hiNibble a : Int) - hiNibble m - -(lo / 10) = hi) (hloRange : -10 ≤ lo ∧ lo ≤ 9)
    (hhiRange : -10 ≤ hi ∧ hi ≤ 9) (n v : Bool) :
    (sbcDec a m c n v).r = BitVec.ofInt 8 (hi % 10 * 16 + lo % 10) ∧
      1 - ((sbcDec a m c n v).c.toNat : Int) = -(hi / 10) := by
  have hborrow : (if lo < 0 then 1 else 0) = -(lo / 10) := by split <;> omega
  have hborrowOut : 1 - ((decide (0 ≤ hi)).toNat : Int) = -(hi / 10) := by
    rw [Bool.toNat, Bool.cond_decide]
    split <;> omega
  simp only [sbcDec, hlo, hborrow, hhi, subDigit_eq_mod_ten hloRange, subDigit_eq_mod_ten hhiRange,
    hborrowOut, and_self]

/-- On valid BCD the result of `adc_dec` is the decimal sum with its carry (R139). -/
theorem adcDec_bcd {a m : Byte} (ha : validBcd a) (hm : validBcd m) (c n v : Bool) :
    validBcd (adcDec a m c n v).r ∧
      bcdValue (adcDec a m c n v).r + 100 * (adcDec a m c n v).c.toNat = bcdValue a + bcdValue m + c.toNat := by
  obtain ⟨halo, hahi⟩ := ha
  obtain ⟨hmlo, hmhi⟩ := hm
  have hc := Bool.toNat_le c
  obtain ⟨lo, hlo⟩ : ∃ lo, a.toNat % 16 + m.toNat % 16 + c.toNat = lo := ⟨_, rfl⟩
  obtain ⟨hi, hhi⟩ : ∃ hi, a.toNat / 16 + m.toNat / 16 + lo / 10 = hi := ⟨_, rfl⟩
  obtain ⟨hr, hcarry⟩ := adcDec_of_columns hlo hhi (by omega) (by omega) n v
  obtain ⟨hvalid, hvalue⟩ := validBcd_ofNat (hi := hi % 10) (lo := lo % 10) (by omega) (by omega)
  rw [hr, hcarry, hvalue, bcdValue, bcdValue]
  exact ⟨hvalid, by omega⟩

/-- On valid BCD the result of `sbc_dec` is the decimal difference, with 100 borrowed where C comes out 0 (R140). -/
theorem sbcDec_bcd {a m : Byte} (ha : validBcd a) (hm : validBcd m) (c n v : Bool) :
    validBcd (sbcDec a m c n v).r ∧
      (bcdValue (sbcDec a m c n v).r : Int) =
        (bcdValue a : Int) - bcdValue m - (1 - (c.toNat : Int)) + 100 * (1 - ((sbcDec a m c n v).c.toNat : Int)) := by
  obtain ⟨halo, hahi⟩ := ha
  obtain ⟨hmlo, hmhi⟩ := hm
  have hc := Bool.toNat_le c
  obtain ⟨lo, hlo⟩ : ∃ lo, ((a.toNat % 16 : Nat) : Int) - (m.toNat % 16 : Nat) - (1 - (c.toNat : Int)) = lo := ⟨_, rfl⟩
  obtain ⟨hi, hhi⟩ : ∃ hi, ((a.toNat / 16 : Nat) : Int) - (m.toNat / 16 : Nat) - -(lo / 10) = hi := ⟨_, rfl⟩
  obtain ⟨hr, hborrow⟩ := sbcDec_of_columns hlo hhi (by omega) (by omega) n v
  obtain ⟨hvalid, hvalue⟩ := validBcd_ofInt (hi := hi % 10) (lo := lo % 10) (by omega) (by omega)
  rw [hr, hborrow, hvalue, bcdValue, bcdValue]
  exact ⟨hvalid, by omega⟩

/-- In decimal mode ADC leaves the result and the carry of `adc_dec` in A and C (48_arithmetic R231). -/
theorem adcOperand_decimal {s : State} (h : (s.p.d && s.params.decimalEnabled) = true) (m : Byte) :
    ∃ n v, (adcOperand m s).a = (adcDec s.a m s.p.c n v).r ∧ (adcOperand m s).p.c = (adcDec s.a m s.p.c n v).c := by
  rw [adcOperand, if_pos h]
  exact ⟨Config.decimalN s.draws false s.a m s.p.c, Config.decimalV s.draws false s.a m s.p.c, rfl, rfl⟩

/-- In decimal mode SBC leaves the result and the carry of `sbc_dec` in A and C (48_arithmetic R232). -/
theorem sbcOperand_decimal {s : State} (h : (s.p.d && s.params.decimalEnabled) = true) (m : Byte) :
    ∃ n v, (sbcOperand m s).a = (sbcDec s.a m s.p.c n v).r ∧ (sbcOperand m s).p.c = (sbcDec s.a m s.p.c n v).c := by
  rw [sbcOperand, if_pos h]
  exact ⟨Config.decimalN s.draws true s.a m s.p.c, Config.decimalV s.draws true s.a m s.p.c, rfl, rfl⟩

/-- Settles O40: each column is a decimal digit, and its carry or borrow is the quotient by ten. -/
theorem bcdArithmeticIsDecimalArithmetic : Obligations.BcdArithmeticIsDecimalArithmetic := by
  intro b s hdecimal ha hb
  obtain ⟨n, v, hadcA, hadcC⟩ := adcOperand_decimal hdecimal b
  obtain ⟨n', v', hsbcA, hsbcC⟩ := sbcOperand_decimal hdecimal b
  refine ⟨⟨advance 2 (adcOperand b s), rfl, ?_⟩, advance 2 (sbcOperand b s), rfl, ?_⟩
  · rw [advance_a, advance_p, hadcA, hadcC]
    exact adcDec_bcd ha hb _ n v
  · rw [advance_a, advance_p, hsbcA, hsbcC]
    exact sbcDec_bcd ha hb _ n' v'

/-! ### The flag-writer matrix -/

/-- The mnemonics that write V (42_alu_and_flags R152). -/
def writersOfV : List Mnemonic := [.ADC, .SBC, .BIT, .CLV, .PLP, .RTI]

/-- The mnemonics that write D (42_alu_and_flags R152). -/
def writersOfD : List Mnemonic := [.CLD, .SED, .PLP, .RTI]

/-- The mnemonics that write I (42_alu_and_flags R152). -/
def writersOfI : List Mnemonic := [.CLI, .SEI, .PLP, .RTI]

/-- The mnemonics that write C (42_alu_and_flags R152). -/
def writersOfC : List Mnemonic :=
  [.ASL, .LSR, .ROL, .ROR, .CMP, .CPX, .CPY, .ADC, .SBC, .CLC, .SEC, .PLP, .RTI]

/-- The flags before and after an instruction with this mnemonic: each flag stays unless the mnemonic writes it. -/
structure FlagFrame (mn : Mnemonic) (p q : Flags) : Prop where
  nz : mn ∉ writersOfNZ → q.n = p.n ∧ q.z = p.z
  v : mn ∉ writersOfV → q.v = p.v
  d : mn ∉ writersOfD → q.d = p.d
  i : mn ∉ writersOfI → q.i = p.i
  c : mn ∉ writersOfC → q.c = p.c

namespace FlagFrame

variable {mn : Mnemonic} {p q : Flags}

theorem refl (p : Flags) : FlagFrame mn p p where
  nz _ := ⟨rfl, rfl⟩
  v _ := rfl
  d _ := rfl
  i _ := rfl
  c _ := rfl

theorem writeNZ (hnz : mn ∈ writersOfNZ) {n z : Bool} : FlagFrame mn p { p with n, z } :=
  { refl p with nz := (absurd hnz ·) }

theorem writeNZC (hnz : mn ∈ writersOfNZ) (hc : mn ∈ writersOfC) {n z c : Bool} : FlagFrame mn p { p with n, z, c } :=
  { refl p with nz := (absurd hnz ·), c := (absurd hc ·) }

theorem writeNVZ (hnz : mn ∈ writersOfNZ) (hv : mn ∈ writersOfV) {n v z : Bool} : FlagFrame mn p { p with n, v, z } :=
  { refl p with nz := (absurd hnz ·), v := (absurd hv ·) }

theorem writeNVZC (hnz : mn ∈ writersOfNZ) (hv : mn ∈ writersOfV) (hc : mn ∈ writersOfC) {n v z c : Bool} :
    FlagFrame mn p { p with n, v, z, c } :=
  { refl p with nz := (absurd hnz ·), v := (absurd hv ·), c := (absurd hc ·) }

theorem writeV (hv : mn ∈ writersOfV) {v : Bool} : FlagFrame mn p { p with v } :=
  { refl p with v := (absurd hv ·) }

theorem writeD (hd : mn ∈ writersOfD) {d : Bool} : FlagFrame mn p { p with d } :=
  { refl p with d := (absurd hd ·) }

theorem writeI (hi : mn ∈ writersOfI) {i : Bool} : FlagFrame mn p { p with i } :=
  { refl p with i := (absurd hi ·) }

theorem writeC (hc : mn ∈ writersOfC) {c : Bool} : FlagFrame mn p { p with c } :=
  { refl p with c := (absurd hc ·) }

/-- PLP and RTI write every flag. -/
theorem writeAll (hmn : mn = .PLP ∨ mn = .RTI) : FlagFrame mn p q := by
  rcases hmn with rfl | rfl <;> exact
    ⟨(absurd (by decide) ·), (absurd (by decide) ·), (absurd (by decide) ·), (absurd (by decide) ·),
      (absurd (by decide) ·)⟩

end FlagFrame

theorem adcOperand_flagFrame (m : Byte) (s : State) : FlagFrame .ADC s.p (adcOperand m s).p := by
  unfold adcOperand
  split <;> exact .writeNVZC (by decide) (by decide) (by decide)

theorem sbcOperand_flagFrame (m : Byte) (s : State) : FlagFrame .SBC s.p (sbcOperand m s).p := by
  unfold sbcOperand
  split <;> exact .writeNVZC (by decide) (by decide) (by decide)

theorem OperandAction.flagFrame {mn : Mnemonic} {f : Byte → State → State} (hf : OperandAction mn f) (m : Byte)
    (s : State) : FlagFrame mn s.p (f m s).p := by
  cases hf with
  | lda | ldx | ldy | and | ora | eor => exact .writeNZ (by decide)
  | cmp | cpx | cpy => exact .writeNZC (by decide) (by decide)
  | bit => exact .writeNVZ (by decide) (by decide)
  | adc => exact adcOperand_flagFrame m s
  | sbc => exact sbcOperand_flagFrame m s

theorem ModifyAction.flagFrame {mn : Mnemonic} {f : Byte → Flags → Byte × Flags} (hf : ModifyAction mn f) (b : Byte)
    (p : Flags) : FlagFrame mn p (f b p).2 := by
  cases hf with
  | inc | dec => exact .writeNZ (by decide)
  | asl | lsr | rol | ror => exact .writeNZC (by decide) (by decide)

theorem ImpliedAction.flagFrame {mn : Mnemonic} {f : State → State} (hf : ImpliedAction mn f) (s : State) :
    FlagFrame mn s.p (f s).p := by
  cases hf with
  | tax | tay | txa | tya | tsx | inx | iny | dex | dey | pla => exact .writeNZ (by decide)
  | txs | pha | php | nop => exact .refl _
  | clc | sec => exact .writeC (by decide)
  | cli | sei => exact .writeI (by decide)
  | cld | sed => exact .writeD (by decide)
  | clv => exact .writeV (by decide)
  | plp => exact .writeAll (.inl rfl)

theorem ControlAction.flagFrame {mn : Mnemonic} {md : Mode} {f : State → State} (hf : ControlAction mn md f)
    (s : State) : FlagFrame mn s.p (f s).p := by
  cases hf with
  | jmpAbs | jmpInd | jsr | rts | brk => exact .refl _
  | rti => exact .writeAll (.inr rfl)

/-- The execution of an instruction writes only the flags of its mnemonic's row (R152). -/
theorem exec_flagFrame {i : Instr} {s t : State} (h : exec i s = .next t) : FlagFrame i.mnemonic s.p t.p := by
  cases exec_shape i s with
  | @operand o f hf he =>
    cases he.symm.trans h
    rw [advance_p, ← readOperand_p o s]
    exact hf.flagFrame _ _
  | @store m r _ he =>
    cases he.symm.trans h
    rw [advance_p, busWrite_p, effAddr_p]
    exact .refl _
  | modify hf he =>
    cases he.symm.trans h
    exact hf.flagFrame _ _
  | accumulator hf he =>
    cases he.symm.trans h
    exact hf.flagFrame _ _
  | implied hf he =>
    cases he.symm.trans h
    exact hf.flagFrame s
  | branch he =>
    cases he.symm.trans h
    exact .refl _
  | control hf he =>
    cases he.symm.trans h
    exact hf.flagFrame s

/-- Settles O41: each flag is written only where the mnemonic's meaning writes it. -/
theorem flagFrameOfEveryInstruction : Obligations.FlagFrameOfEveryInstruction := by
  intro i s t h
  obtain ⟨hnz, hv, hd, hi, hc⟩ := exec_flagFrame h
  exact ⟨hnz, hv, hd, hi, hc⟩

end Sys2Proof.Proofs
end

section
/-! PROOF. The loads, the stores and the transfers, and two tools for every family of instructions: the shared operation
that a mnemonic's execution is, and its forms as read off the opcode map (43_load_store_transfer R156 to R167). -/

namespace Sys2Proof.Proofs

open Sys2Proof Sys2Proof.Machine Sys2Proof.Claims

/-! ### The forms of a mnemonic -/

/-- The cells of R76 are those of the instructions, so the forms of a mnemonic are read off its rows. -/
theorem hasForms_of_opcodeMap {mn : Mnemonic} {cells : List (ModeKind × Byte)}
    (h : ∀ row ∈ opcodeMap, row.1 = mn ↔ row.2 ∈ cells) : hasForms mn cells :=
  fun i => h (cellOf i) (cellOf_mem_opcodeMap i)

/-! ### The shared operation of a mnemonic -/

/-- The shared operations of R102 to R106. -/
inductive ExecKind
  | operand | store | modify | implied | branch | control

/-- The shared operation that the instructions of a mnemonic are. -/
def execKind : Mnemonic → ExecKind
  | .LDA | .LDX | .LDY | .AND | .ORA | .EOR | .CMP | .CPX | .CPY | .BIT | .ADC | .SBC => .operand
  | .STA | .STX | .STY => .store
  | .INC | .DEC | .ASL | .LSR | .ROL | .ROR => .modify
  | .BCC | .BCS | .BEQ | .BNE | .BMI | .BPL | .BVC | .BVS => .branch
  | .JMP | .JSR | .RTS | .RTI | .BRK => .control
  | .TAX | .TAY | .TXA | .TYA | .TSX | .TXS | .INX | .INY | .DEX | .DEY | .CLC | .SEC | .CLI | .SEI | .CLD | .SED
  | .CLV | .PHA | .PLA | .PHP | .PLP | .NOP => .implied

theorem OperandAction.execKind_eq {mn : Mnemonic} {f : Byte → State → State} (hf : OperandAction mn f) :
    execKind mn = .operand := by
  cases hf <;> rfl

theorem StoreAction.execKind_eq {mn : Mnemonic} {r : State → Byte} (hr : StoreAction mn r) : execKind mn = .store := by
  cases hr <;> rfl

theorem ModifyAction.execKind_eq {mn : Mnemonic} {f : Byte → Flags → Byte × Flags} (hf : ModifyAction mn f) :
    execKind mn = .modify := by
  cases hf <;> rfl

theorem ImpliedAction.execKind_eq {mn : Mnemonic} {f : State → State} (hf : ImpliedAction mn f) :
    execKind mn = .implied := by
  cases hf <;> rfl

theorem ControlAction.execKind_eq {mn : Mnemonic} {md : Mode} {f : State → State} (hf : ControlAction mn md f) :
    execKind mn = .control := by
  cases hf <;> rfl

theorem execKind_eq_branch_of_cond {p : Flags} {mn : Mnemonic} {taken : Bool} (h : Machine.cond p mn = some taken) :
    execKind mn = .branch := by
  cases mn
  case BCC | BCS | BEQ | BNE | BMI | BPL | BVC | BVS => rfl
  all_goals cases h

theorem OperandAction.unique {mn : Mnemonic} {f g : Byte → State → State} (hf : OperandAction mn f)
    (hg : OperandAction mn g) : f = g := by
  cases hf <;> cases hg <;> rfl

theorem StoreAction.unique {mn : Mnemonic} {q r : State → Byte} (hq : StoreAction mn q) (hr : StoreAction mn r) :
    q = r := by
  cases hq <;> cases hr <;> rfl

/-! ### The next states -/

/-- With PC as it was before, advancing by an instruction's length gives `PC_next`. -/
theorem advance_eq_setPC_pcNext {i : Instr} {s t : State} (hpc : t.pc = s.pc) :
    advance (lengthOfKind i.mode.kind) t = t.setPC (pcNext i s) := by
  rw [advance, hpc, pcNext_eq]

/-- Every form of a mnemonic that reads an operand: its action on the byte that its own mode gives, and `PC_next`
(R101, R103). -/
theorem exec_of_operandAction {i : Instr} {mn : Mnemonic} {f : Byte → State → State} (h : i.mnemonic = mn)
    (hf : OperandAction mn f) (s : State) :
    ∃ o : Operand, i.mode = o.mode ∧
      exec i s = .next ((f (readOperand o s).1 (readOperand o s).2).setPC (pcNext i s)) := by
  subst h
  cases exec_shape i s with
  | @operand o g hg he hmode =>
    cases hf.unique hg
    have hpc : (f (readOperand o s).1 (readOperand o s).2).pc = s.pc := (hf.pc _ _).trans (readOperand_pc o s)
    refine ⟨o, hmode, ?_⟩
    rw [he, withOperand, operandLength_eq, ← hmode, advance_eq_setPC_pcNext hpc]
  | store hg | modify hg | accumulator hg | implied hg | control hg => cases hf.execKind_eq.symm.trans hg.execKind_eq
  | branch _ _ hcond => cases hf.execKind_eq.symm.trans (execKind_eq_branch_of_cond hcond)

/-- Every form of a store: one bus write of the mnemonic's register at the address of its own mode, and `PC_next`
(R101, R105). -/
theorem exec_of_storeAction {i : Instr} {mn : Mnemonic} {r : State → Byte} (h : i.mnemonic = mn) (hr : StoreAction mn r)
    (s : State) :
    ∃ m : AddrMode, i.mode = .mem m ∧
      exec i s = .next ((busWrite (effAddr m s).1 (r s) (effAddr m s).2).setPC (pcNext i s)) := by
  subst h
  cases exec_shape i s with
  | @store m q hq he hmode =>
    cases hr.unique hq
    have hpc : (busWrite (effAddr m s).1 (r s) (effAddr m s).2).pc = s.pc := by rw [busWrite_pc, effAddr_pc]
    have hlength : addrModeLength m = lengthOfKind i.mode.kind := by rw [addrModeLength_eq, hmode, Mode.kind]
    refine ⟨m, hmode, ?_⟩
    rw [he, storeByte, hlength, advance_eq_setPC_pcNext hpc]
  | operand hg | modify hg | accumulator hg | implied hg | control hg => cases hr.execKind_eq.symm.trans hg.execKind_eq
  | branch _ _ hcond => cases hr.execKind_eq.symm.trans (execKind_eq_branch_of_cond hcond)

/-- N is bit 7 and Z tells whether the value is 0, in the words of the statements (R142, R143). -/
theorem setNZ_eq (p : Flags) (v : Byte) : p.setNZ v = { p with n := v.getLsbD 7, z := decide (v = 0) } := rfl

/-! ### The statements about loads, stores and transfers -/

/-- Settles O18: a load is `loadA`, `loadX` or `loadY` on the operand read, which leaves the flags as they were. -/
theorem loadsSetTheRegisterAndNZ : Obligations.LoadsSetTheRegisterAndNZ := by
  refine ⟨fun i s h => ?_, hasForms_of_opcodeMap (by decide +kernel),
    fun i s h => ?_, hasForms_of_opcodeMap (by decide +kernel),
    fun i s h => ?_, hasForms_of_opcodeMap (by decide +kernel)⟩
  · obtain ⟨o, hmode, he⟩ := exec_of_operandAction h .lda s
    rw [loadA, readOperand_p, setNZ_eq] at he
    exact ⟨o, hmode, he⟩
  · obtain ⟨o, hmode, he⟩ := exec_of_operandAction h .ldx s
    rw [loadX, readOperand_p, setNZ_eq] at he
    exact ⟨o, hmode, he⟩
  · obtain ⟨o, hmode, he⟩ := exec_of_operandAction h .ldy s
    rw [loadY, readOperand_p, setNZ_eq] at he
    exact ⟨o, hmode, he⟩

/-- Settles O19: a store is one bus write at the effective address of its mode. -/
theorem storesWriteTheRegisterAtEA : Obligations.StoresWriteTheRegisterAtEA := by
  refine ⟨fun i s h => ?_, hasForms_of_opcodeMap (by decide +kernel),
    fun i s h => ?_, hasForms_of_opcodeMap (by decide +kernel),
    fun i s h => ?_, hasForms_of_opcodeMap (by decide +kernel)⟩
  · exact exec_of_storeAction h .sta s
  · exact exec_of_storeAction h .stx s
  · exact exec_of_storeAction h .sty s

/-- Settles O20: each transfer is by definition `implied` of its copy. -/
theorem transfersCopyARegister : Obligations.TransfersCopyARegister := by
  refine ⟨fun s => ⟨rfl, rfl, rfl, rfl, rfl, rfl⟩, ?_, ?_, ?_, ?_, ?_, ?_⟩
  all_goals exact hasForms_of_opcodeMap (by decide +kernel)

end Sys2Proof.Proofs
end

section
/-! PROOF. The increments, the decrements, the shifts and the rotates: what each makes of a byte, as a number, and the
next state of every read-modify-write (44_incdec_shift R171 to R180). -/

namespace Sys2Proof.Proofs

open Sys2Proof Sys2Proof.Machine Sys2Proof.Claims

/-! ### The bytes as numbers -/

theorem inc8_eq_ofNat (v : Byte) : inc8 v = BitVec.ofNat 8 (v.toNat + 1) := by
  rw [inc8, BitVec.ofNat_add, BitVec.ofNat_toNat, BitVec.setWidth_eq]
  rfl

/-- Subtracting 1 is adding 255, so that the number does not go below 0. -/
theorem dec8_eq_ofNat (v : Byte) : dec8 v = BitVec.ofNat 8 (v.toNat + 255) := by
  rw [BitVec.ofNat_add, BitVec.ofNat_toNat, BitVec.setWidth_eq]
  exact BitVec.sub_eq_add_neg v 1

theorem shiftLeft_one_eq_ofNat (v : Byte) : v <<< 1 = BitVec.ofNat 8 (2 * v.toNat) := by
  apply BitVec.eq_of_toNat_eq
  rw [BitVec.toNat_shiftLeft, BitVec.toNat_ofNat, Nat.shiftLeft_eq, Nat.mul_comm, Nat.pow_one]

theorem ushiftRight_one_eq_ofNat (v : Byte) : v >>> 1 = BitVec.ofNat 8 (v.toNat / 2) := by
  apply BitVec.eq_of_toNat_eq
  rw [BitVec.toNat_ushiftRight, BitVec.toNat_ofNat, Nat.shiftRight_one, Nat.mod_eq_of_lt (by omega)]

theorem carry_eq_ofNat (c : Bool) : (BitVec.ofBool c).setWidth 8 = BitVec.ofNat 8 c.toNat := by
  cases c <;> rfl

theorem carry_shiftLeft_eq_ofNat (c : Bool) : (BitVec.ofBool c).setWidth 8 <<< 7 = BitVec.ofNat 8 (128 * c.toNat) := by
  cases c <;> rfl

/-- The carry enters bit 0, which a shift to the left leaves clear, so that the two add up. -/
theorem shiftLeft_one_or_carry (v : Byte) (c : Bool) :
    v <<< 1 ||| (BitVec.ofBool c).setWidth 8 = BitVec.ofNat 8 (2 * v.toNat + c.toNat) := by
  have hdisjoint : v <<< 1 &&& (BitVec.ofBool c).setWidth 8 = 0#8 := by
    ext k hk
    cases k <;> simp
  rw [← BitVec.add_eq_or_of_and_eq_zero _ _ hdisjoint, shiftLeft_one_eq_ofNat, carry_eq_ofNat, BitVec.ofNat_add]

/-- The carry enters bit 7, which a shift to the right leaves clear, so that the two add up. -/
theorem ushiftRight_one_or_carry (v : Byte) (c : Bool) :
    v >>> 1 ||| (BitVec.ofBool c).setWidth 8 <<< 7 = BitVec.ofNat 8 (v.toNat / 2 + 128 * c.toNat) := by
  have hdisjoint : v >>> 1 &&& (BitVec.ofBool c).setWidth 8 <<< 7 = 0#8 := by
    ext k hk
    have hbit : k < 7 ∨ k = 7 := by omega
    rcases hbit with hlow | rfl
    · simp [hlow]
    · simp
  rw [← BitVec.add_eq_or_of_and_eq_zero _ _ hdisjoint, ushiftRight_one_eq_ofNat, carry_shiftLeft_eq_ofNat,
    BitVec.ofNat_add]

/-! ### The byte and the flags that a read-modify-write makes -/

/-- N, Z and a given C, in the words of the statements (R142 to R145). -/
theorem setNZC_eq (p : Flags) (v : Byte) (c : Bool) :
    p.setNZC v c = { p with n := v.getLsbD 7, z := decide (v = 0), c } := rfl

theorem incByte_eq (v : Byte) (p : Flags) :
    incByte v p = (BitVec.ofNat 8 (v.toNat + 1), p.setNZ (BitVec.ofNat 8 (v.toNat + 1))) := by
  rw [incByte, inc8_eq_ofNat]

theorem decByte_eq (v : Byte) (p : Flags) :
    decByte v p = (BitVec.ofNat 8 (v.toNat + 255), p.setNZ (BitVec.ofNat 8 (v.toNat + 255))) := by
  rw [decByte, dec8_eq_ofNat]

theorem aslByte_eq (v : Byte) (p : Flags) :
    aslByte v p = (BitVec.ofNat 8 (2 * v.toNat), p.setNZC (BitVec.ofNat 8 (2 * v.toNat)) (v.getLsbD 7)) := by
  rw [aslByte, aslResult, shiftLeft_one_eq_ofNat]

theorem lsrByte_eq (v : Byte) (p : Flags) :
    lsrByte v p = (BitVec.ofNat 8 (v.toNat / 2), p.setNZC (BitVec.ofNat 8 (v.toNat / 2)) (v.getLsbD 0)) := by
  rw [lsrByte, lsrResult, ushiftRight_one_eq_ofNat]

theorem rolByte_eq (v : Byte) (p : Flags) :
    rolByte v p = (BitVec.ofNat 8 (2 * v.toNat + p.c.toNat),
      p.setNZC (BitVec.ofNat 8 (2 * v.toNat + p.c.toNat)) (v.getLsbD 7)) := by
  rw [rolByte, rolResult, shiftLeft_one_or_carry]

theorem rorByte_eq (v : Byte) (p : Flags) :
    rorByte v p = (BitVec.ofNat 8 (v.toNat / 2 + 128 * p.c.toNat),
      p.setNZC (BitVec.ofNat 8 (v.toNat / 2 + 128 * p.c.toNat)) (v.getLsbD 0)) := by
  rw [rorByte, rorResult, ushiftRight_one_or_carry]

/-! ### The next state of a read-modify-write -/

theorem ModifyAction.unique {mn : Mnemonic} {f g : Byte → Flags → Byte × Flags} (hf : ModifyAction mn f)
    (hg : ModifyAction mn g) : f = g := by
  cases hf <;> cases hg <;> rfl

/-- The state after a bus read at the address of a memory mode and a bus write there of what `f` makes of the byte; PC is
as before (R104). -/
def modifiedState (m : AddrMode) (f : Byte → Flags → Byte × Flags) (s : State) : State :=
  let e := effAddr m s
  let b := busRead e.1 e.2
  (busWrite e.1 (f b.1 s.p).1 b.2).setP (f b.1 s.p).2

theorem modifyByte_eq (m : AddrMode) (f : Byte → Flags → Byte × Flags) (s : State) :
    modifyByte m f s = .next (advance (addrModeLength m) (modifiedState m f s)) := rfl

theorem modifiedState_pc (m : AddrMode) (f : Byte → Flags → Byte × Flags) (s : State) :
    (modifiedState m f s).pc = s.pc := by
  rw [modifiedState, State.setP_pc, busWrite_pc, busRead_pc, effAddr_pc]

/-- Every form of a mnemonic that modifies a byte: its action on A, or on the byte at the address of its own mode, and
`PC_next` (R101, R104). -/
theorem exec_of_modifyAction {i : Instr} {mn : Mnemonic} {f : Byte → Flags → Byte × Flags} (h : i.mnemonic = mn)
    (hf : ModifyAction mn f) (s : State) :
    (i.mode = .acc ∧ exec i s = .next { s with a := (f s.a s.p).1, p := (f s.a s.p).2, pc := s.pc + 1 }) ∨
      ∃ m : AddrMode, i.mode = .mem m ∧ exec i s = .next ((modifiedState m f s).setPC (pcNext i s)) := by
  subst h
  cases exec_shape i s with
  | @modify m g hg he hmode =>
    cases hf.unique hg
    have hlength : addrModeLength m = lengthOfKind i.mode.kind := by rw [addrModeLength_eq, hmode, Mode.kind]
    refine .inr ⟨m, hmode, ?_⟩
    rw [he, modifyByte_eq, hlength, advance_eq_setPC_pcNext (modifiedState_pc m f s)]
  | accumulator hg he hmode =>
    cases hf.unique hg
    exact .inl ⟨hmode, he.trans (modifyA_next.2 rfl)⟩
  | operand hg | store hg | implied hg | control hg => cases hf.execKind_eq.symm.trans hg.execKind_eq
  | branch _ _ hcond => cases hf.execKind_eq.symm.trans (execKind_eq_branch_of_cond hcond)

/-- A mnemonic that has no cell on the accumulator has no instruction there. -/
theorem mode_ne_acc_of_hasForms {mn : Mnemonic} {cells : List (ModeKind × Byte)} (hforms : hasForms mn cells)
    (hacc : ModeKind.acc ∉ cells.map Prod.fst) {i : Instr} (h : i.mnemonic = mn) : i.mode ≠ .acc := by
  intro hmode
  have hkind : i.mode.kind = .acc := by rw [hmode, Mode.kind]
  exact hacc (hkind ▸ List.mem_map_of_mem ((hforms i).1 h))

theorem hasForms_inc : hasForms .INC [(.zp, 0xE6), (.zpx, 0xF6), (.abs, 0xEE), (.absx, 0xFE)] :=
  hasForms_of_opcodeMap (by decide +kernel)

theorem hasForms_dec : hasForms .DEC [(.zp, 0xC6), (.zpx, 0xD6), (.abs, 0xCE), (.absx, 0xDE)] :=
  hasForms_of_opcodeMap (by decide +kernel)

/-- A mnemonic that has memory forms only modifies the byte at the address of its mode. -/
theorem exec_of_modifyAction_mem {i : Instr} {mn : Mnemonic} {f : Byte → Flags → Byte × Flags} (h : i.mnemonic = mn)
    (hf : ModifyAction mn f) (hacc : i.mode ≠ .acc) (s : State) :
    ∃ m : AddrMode, i.mode = .mem m ∧ exec i s = .next ((modifiedState m f s).setPC (pcNext i s)) :=
  (exec_of_modifyAction h hf s).resolve_left fun hform => hacc hform.1

/-! ### The statements about increments, decrements, shifts and rotates -/

/-- Settles O21: INC and DEC have memory forms only, and the register forms are `inc8` and `dec8` of X or Y. -/
theorem incrementsAndDecrementsWrap : Obligations.IncrementsAndDecrementsWrap := by
  refine ⟨fun i s h => ?_, hasForms_inc, fun i s h => ?_, hasForms_dec, fun s => ⟨?_, ?_, ?_, ?_⟩, ?_, ?_, ?_, ?_⟩
  · obtain ⟨m, hmode, he⟩ := exec_of_modifyAction_mem h .inc (mode_ne_acc_of_hasForms hasForms_inc (by decide) h) s
    simp only [modifiedState, incByte_eq, setNZ_eq] at he
    exact ⟨m, hmode, he⟩
  · obtain ⟨m, hmode, he⟩ := exec_of_modifyAction_mem h .dec (mode_ne_acc_of_hasForms hasForms_dec (by decide) h) s
    simp only [modifiedState, decByte_eq, setNZ_eq] at he
    exact ⟨m, hmode, he⟩
  · rw [← inc8_eq_ofNat]
    rfl
  · rw [← inc8_eq_ofNat]
    rfl
  · rw [← dec8_eq_ofNat]
    rfl
  · rw [← dec8_eq_ofNat]
    rfl
  all_goals exact hasForms_of_opcodeMap (by decide +kernel)

/-- Settles O22: both are a read-modify-write of A or of memory, and a shift by one doubles or halves the number. -/
theorem shiftsMoveTheEndBitToCarry : Obligations.ShiftsMoveTheEndBitToCarry := by
  refine ⟨fun i s h => ?_, hasForms_of_opcodeMap (by decide +kernel),
    fun i s h => ?_, hasForms_of_opcodeMap (by decide +kernel)⟩
  · have he := exec_of_modifyAction h .asl s
    simp only [modifiedState, aslByte_eq, setNZC_eq] at he
    exact he
  · have he := exec_of_modifyAction h .lsr s
    simp only [modifiedState, lsrByte_eq, setNZC_eq] at he
    exact he

/-- Settles O23: both are a read-modify-write of A or of memory, and the carry fills the bit that the shift left clear. -/
theorem rotatesPassThroughCarry : Obligations.RotatesPassThroughCarry := by
  refine ⟨fun i s h => ?_, hasForms_of_opcodeMap (by decide +kernel),
    fun i s h => ?_, hasForms_of_opcodeMap (by decide +kernel)⟩
  · have he := exec_of_modifyAction h .rol s
    simp only [modifiedState, rolByte_eq, setNZC_eq] at he
    exact he
  · have he := exec_of_modifyAction h .ror s
    simp only [modifiedState, rorByte_eq, setNZC_eq] at he
    exact he

end Sys2Proof.Proofs
end

section
/-! PROOF. The logical operations, the compares and the bit test: the flags that each makes of a register and the operand,
and the next state (45_logic_compare_bit R186 to R192). -/

namespace Sys2Proof.Proofs

open Sys2Proof Sys2Proof.Machine Sys2Proof.Claims

/-! ### The flags of a compare and of a bit test -/

/-- The difference of two bytes as a number: adding 256 first keeps it from going below 0. -/
theorem sub_eq_ofNat (r m : Byte) : r - m = BitVec.ofNat 8 (r.toNat + 256 - m.toNat) := by
  have hm := m.isLt
  rw [BitVec.sub_def, Nat.add_comm r.toNat, Nat.sub_add_comm (by omega)]

/-- C, Z and N of a compare, in the words of the statements (R147). -/
theorem compare_eq (p : Flags) (r m : Byte) :
    p.compare r m =
      { p with
        n := (BitVec.ofNat 8 (r.toNat + 256 - m.toNat)).getLsbD 7
        z := decide (r = m)
        c := decide (r.toNat ≥ m.toNat) } := by
  rw [← sub_eq_ofNat]
  rfl

/-- Z, N and V of a bit test, in the words of the statements (R148). -/
theorem bitTest_eq (p : Flags) (a m : Byte) :
    p.bitTest a m = { p with n := m.getLsbD 7, v := m.getLsbD 6, z := decide (a &&& m = 0) } := rfl

/-! ### The memory forms of an operand read -/

/-- A mnemonic that has no immediate cell has no instruction with an immediate byte. -/
theorem mode_ne_imm_of_hasForms {mn : Mnemonic} {cells : List (ModeKind × Byte)} (hforms : hasForms mn cells)
    (himm : ModeKind.imm ∉ cells.map Prod.fst) {i : Instr} (h : i.mnemonic = mn) (v : Byte) : i.mode ≠ .imm v := by
  intro hmode
  have hkind : i.mode.kind = .imm := by rw [hmode, Mode.kind]
  exact himm (hkind ▸ List.mem_map_of_mem ((hforms i).1 h))

/-- A mnemonic that reads an operand and has memory forms only acts on the byte read at the address of its mode (R103). -/
theorem exec_of_operandAction_mem {i : Instr} {mn : Mnemonic} {f : Byte → State → State} (h : i.mnemonic = mn)
    (hf : OperandAction mn f) (himm : ∀ v, i.mode ≠ .imm v) (s : State) :
    ∃ m : AddrMode, i.mode = .mem m ∧
      exec i s = .next ((f (readOperand (.mem m) s).1 (readOperand (.mem m) s).2).setPC (pcNext i s)) := by
  obtain ⟨o, hmode, he⟩ := exec_of_operandAction h hf s
  cases o with
  | imm v => exact absurd hmode (himm v)
  | mem m => exact ⟨m, hmode, he⟩

theorem hasForms_bit : hasForms .BIT [(.zp, 0x24), (.abs, 0x2C)] :=
  hasForms_of_opcodeMap (by decide +kernel)

/-! ### The statements about logical operations, compares and the bit test -/

/-- Settles O25: each compares its register, which the operand read leaves as it was, with the operand, and the
difference of the two is taken as a number. -/
theorem comparesSetNZCFromTheDifference : Obligations.ComparesSetNZCFromTheDifference := by
  refine ⟨fun i s h => ?_, hasForms_of_opcodeMap (by decide +kernel),
    fun i s h => ?_, hasForms_of_opcodeMap (by decide +kernel),
    fun i s h => ?_, hasForms_of_opcodeMap (by decide +kernel)⟩
  · obtain ⟨o, hmode, he⟩ := exec_of_operandAction h .cmp s
    rw [cmpOperand, readOperand_p, readOperand_a, compare_eq] at he
    exact ⟨o, hmode, he⟩
  · obtain ⟨o, hmode, he⟩ := exec_of_operandAction h .cpx s
    rw [cpxOperand, readOperand_p, readOperand_x, compare_eq] at he
    exact ⟨o, hmode, he⟩
  · obtain ⟨o, hmode, he⟩ := exec_of_operandAction h .cpy s
    rw [cpyOperand, readOperand_p, readOperand_y, compare_eq] at he
    exact ⟨o, hmode, he⟩

/-- Settles O24: each combines A, which the operand read leaves as it was, with the operand, and sets N and Z from the
result. -/
theorem logicalOperationsCombineAWithTheOperand : Obligations.LogicalOperationsCombineAWithTheOperand := by
  refine ⟨fun i s h => ?_, hasForms_of_opcodeMap (by decide +kernel),
    fun i s h => ?_, hasForms_of_opcodeMap (by decide +kernel),
    fun i s h => ?_, hasForms_of_opcodeMap (by decide +kernel)⟩
  · obtain ⟨o, hmode, he⟩ := exec_of_operandAction h .and s
    rw [andA, readOperand_p, readOperand_a, setNZ_eq] at he
    exact ⟨o, hmode, he⟩
  · obtain ⟨o, hmode, he⟩ := exec_of_operandAction h .ora s
    rw [oraA, readOperand_p, readOperand_a, setNZ_eq] at he
    exact ⟨o, hmode, he⟩
  · obtain ⟨o, hmode, he⟩ := exec_of_operandAction h .eor s
    rw [eorA, readOperand_p, readOperand_a, setNZ_eq] at he
    exact ⟨o, hmode, he⟩

/-- Settles O26: BIT has memory forms only, so its operand is the byte read at EA, and A is as before that read. -/
theorem bitTestsAAgainstTheByte : Obligations.BitTestsAAgainstTheByte := by
  refine ⟨fun i s h => ?_, hasForms_bit⟩
  obtain ⟨m, hmode, he⟩ := exec_of_operandAction_mem h .bit (mode_ne_imm_of_hasForms hasForms_bit (by decide) h) s
  rw [bitOperand, readOperand_p, readOperand_a, bitTest_eq] at he
  exact ⟨m, hmode, he⟩

end Sys2Proof.Proofs
end

section
/-! PROOF. The branches and the flag instructions: a branch's target as an integer sum, the common branch rule for every
instruction that has a branch predicate, and the next states (46_branch_flag R196 to R211). -/

namespace Sys2Proof.Proofs

open Sys2Proof Sys2Proof.Machine Sys2Proof.Claims

/-! ### The common branch rule -/

/-- The target as an integer sum, in the words of the statements: the offset is signed (R128). -/
theorem branchTarget_eq_ofInt (pc : Word) (off : Byte) :
    branchTarget pc off = BitVec.ofInt 16 ((pc.toNat : Int) + 2 + off.toInt) := by
  rw [BitVec.ofInt_add, BitVec.ofInt_add, BitVec.ofInt_natCast, BitVec.ofNat_toNat, BitVec.setWidth_eq]
  rfl

/-- A mnemonic with a predicate in R150 is executed by the common branch rule, on that predicate (R196). -/
theorem exec_eq_branchIf {i : Instr} {s : State} {taken : Bool} {off : Byte} (hmode : i.mode = .rel off)
    (hcond : Machine.cond s.p i.mnemonic = some taken) : exec i s = branchIf taken off s := by
  cases exec_shape i s with
  | branch he hm hc =>
    cases hm.symm.trans hmode
    cases hc.symm.trans hcond
    exact he
  | operand hf | store hf | modify hf | accumulator hf | implied hf | control hf =>
    cases hf.execKind_eq.symm.trans (execKind_eq_branch_of_cond hcond)

/-- BCS, BEQ, BMI and BVS: the predicate is that a flag is set. -/
theorem exec_branch_of_flag_set {i : Instr} {s : State} {flag : Bool} {off : Byte} (hmode : i.mode = .rel off)
    (hcond : Machine.cond s.p i.mnemonic = some flag) :
    exec i s = .next { s with
      pc := if flag = true then BitVec.ofInt 16 ((s.pc.toNat : Int) + 2 + off.toInt)
        else BitVec.ofNat 16 (s.pc.toNat + 2) } := by
  rw [exec_eq_branchIf hmode hcond, branchIf, branchTarget_eq_ofInt, BitVec.ofNat_add, BitVec.ofNat_toNat,
    BitVec.setWidth_eq]
  rfl

/-- BCC, BNE, BPL and BVC: the predicate is that a flag is clear. -/
theorem exec_branch_of_flag_clear {i : Instr} {s : State} {flag : Bool} {off : Byte} (hmode : i.mode = .rel off)
    (hcond : Machine.cond s.p i.mnemonic = some (!flag)) :
    exec i s = .next { s with
      pc := if flag = false then BitVec.ofInt 16 ((s.pc.toNat : Int) + 2 + off.toInt)
        else BitVec.ofNat 16 (s.pc.toNat + 2) } := by
  simpa only [Bool.not_eq_true'] using exec_branch_of_flag_set hmode hcond

/-! ### The statements about branches and flag instructions -/

/-- Settles O27: four branches wait for a clear flag and four for a set one, by the predicates of R150. -/
theorem branchesMovePcByTheirPredicate : Obligations.BranchesMovePcByTheirPredicate := by
  refine ⟨fun off s => ⟨?bcc, ?bcs, ?beq, ?bne, ?bmi, ?bpl, ?bvc, ?bvs⟩, ?_, ?_, ?_, ?_, ?_, ?_, ?_, ?_⟩
  case bcc | bne | bpl | bvc => exact exec_branch_of_flag_clear rfl rfl
  case bcs | beq | bmi | bvs => exact exec_branch_of_flag_set rfl rfl
  all_goals exact hasForms_of_opcodeMap (by decide +kernel)

/-- Settles O28: each flag instruction is by definition `implied` of the assignment of its flag. -/
theorem flagInstructionsAssignOneFlag : Obligations.FlagInstructionsAssignOneFlag := by
  refine ⟨fun s => ⟨rfl, rfl, rfl, rfl, rfl, rfl, rfl⟩, ?_, ?_, ?_, ?_, ?_, ?_, ?_⟩
  all_goals exact hasForms_of_opcodeMap (by decide +kernel)

end Sys2Proof.Proofs
end

section
/-! PROOF. The stack and control-flow instructions: the status byte and the stacked words as numbers, what a pull gives
after the matching push, and the next states (47_stack_control R216 to R225). -/

namespace Sys2Proof.Proofs

open Sys2Proof Sys2Proof.Machine Sys2Proof.Claims

/-! ### The status byte -/

/-- The layout of R34 as a sum of bits. -/
theorem pack_eq_statusByte (f : Flags) (b4 : Bool) : pack f b4 = statusByte f b4 := by
  obtain ⟨n, v, d, i, z, c⟩ := f
  revert n v d i z c b4
  decide

/-- The bits of R35 as remainders. -/
theorem unpack_eq_flagsOfByte : unpack = flagsOfByte := by
  funext v
  simp only [unpack, flagsOfByte, BitVec.getLsbD, Nat.testBit_eq_decide_div_mod_eq, Nat.reducePow, Nat.div_one]

/-! ### Words on the stack -/

theorem hiByte_eq_ofNat (w : Word) : hiByte w = BitVec.ofNat 8 (w.toNat / 256) := by
  rw [← hiByte_toNat, BitVec.ofNat_toNat, BitVec.setWidth_eq]

theorem loByte_eq_ofNat (w : Word) : loByte w = BitVec.ofNat 8 (w.toNat % 256) := by
  rw [← loByte_toNat, BitVec.ofNat_toNat, BitVec.setWidth_eq]

/-- Pulling a word, in the words of the statements. -/
theorem pullWord_eq_ofNat (s : State) :
    pullWord s = (BitVec.ofNat 16 ((pull (pull s).2).1.toNat * 256 + (pull s).1.toNat), (pull (pull s).2).2) := by
  rw [pullWord, wordOf_eq_ofNat]

/-! ### The instructions that call and return -/

theorem exec_jsr (a : Word) (s : State) : exec (.jsr a) s = .next ((pushWord (s.pc + 2) s).setPC a) := rfl

theorem exec_rts (s : State) : exec .rts s = .next ((pullWord s).2.setPC ((pullWord s).1 + 1)) := rfl

theorem exec_rti (s : State) : exec .rti s = .next (returnFromInterrupt s) := rfl

/-! ### Pulling what was pushed, with no hooks -/

section
variable {s : State} (hread : s.params.readHooks = [])
include hread

/-- A pulled word is the one whose bytes lie above SP, the low byte first. -/
theorem pullWord_of_byteAt {w : Word} (hlo : s.byteAt (stackSlot (s.sp + 1)) = loByte w)
    (hhi : s.byteAt (stackSlot (s.sp + 2)) = hiByte w) : pullWord s = (w, s.setSP (s.sp + 2)) := by
  rw [pullWord_noHooks hread, hlo, hhi, wordOf_hi_lo]

/-- The return from an interrupt takes the flags and PC from the three bytes above SP. -/
theorem returnFromInterrupt_of_byteAt {f : Flags} {b4 : Bool} {w : Word}
    (hstatus : s.byteAt (stackSlot (s.sp + 1)) = pack f b4) (hlo : s.byteAt (stackSlot (s.sp + 2)) = loByte w)
    (hhi : s.byteAt (stackSlot (s.sp + 3)) = hiByte w) :
    returnFromInterrupt s = ((s.setP f).setSP (s.sp + 3)).setPC w := by
  have hpull : pullWord ((s.setSP (s.sp + 1)).setP f) = (w, ((s.setSP (s.sp + 1)).setP f).setSP (s.sp + 1 + 2)) := by
    refine pullWord_of_byteAt (s := (s.setSP (s.sp + 1)).setP f) hread ?_ ?_
    · rw [State.setP_sp, State.setSP_sp, BitVec.add_assoc]
      exact hlo
    · rw [State.setP_sp, State.setSP_sp, BitVec.add_assoc]
      exact hhi
  rw [returnFromInterrupt, pull_noHooks hread, hstatus, unpack_pack, hpull, BitVec.add_assoc]
  rfl

/-- The service, once its three bytes are pushed: I is set, PC is the word at the NMI vector, and the latch is clear
(60_exceptions R247). -/
theorem takeNmi_of_push {t : State} (ht : t = push (pack s.p s.params.bPushNmi) (pushWord s.pc s)) :
    takeNmi s = ((t.setP { t.p with i := true }).setPC
      (wordOf (t.byteAt nmiVectorHi) (t.byteAt nmiVectorLo))).setNmiPending false := by
  have hread' : (t.setP { t.p with i := true }).params.readHooks = [] := by
    rw [State.setP_params, ht, push_params, pushWord_params, hread]
  rw [takeNmi, ← ht, readPair_noHooks _ _ hread']
  rfl

end

section
variable {s : State} (hinv : s.Inv) (hread : s.params.readHooks = []) (hwrite : s.params.writeHooks = [])
include hinv hwrite

/-- A byte pushed after a word: three bytes at SP and below, and nothing changes but memory and SP. -/
theorem push_pushWord_noHooks (v : Byte) (w : Word) {t : State} (ht : t = push v (pushWord w s)) :
    t = (s.setMem t.mem).setSP (s.sp - 3) ∧ t.byteAt (stackSlot (s.sp - 2)) = v ∧
      t.byteAt (stackSlot (s.sp - 1)) = loByte w ∧ t.byteAt (stackSlot s.sp) = hiByte w := by
  obtain ⟨hstate, hinv', hhi, hlo, -⟩ := pushWord_noHooks w hinv hwrite
  have hwrite' : (pushWord w s).params.writeHooks = [] := by rw [pushWord_params, hwrite]
  generalize pushWord w s = r at *
  have hsp : r.sp = s.sp - 2 := congrArg State.sp hstate
  have hself := push_byteAt_self v hinv' hwrite'
  have hother (a : Byte) (ha : a ≠ s.sp - 2) : (push v r).byteAt (stackSlot a) = r.byteAt (stackSlot a) :=
    push_byteAt_other v hinv' (by rwa [hsp, Ne, stackSlot_inj])
  rw [hsp] at hself
  rw [← ht] at hself hother
  refine ⟨?_, hself, (hother _ (by bv_omega)).trans hlo, (hother _ (by bv_omega)).trans hhi⟩
  rw [ht, push_noHooks v hwrite', hsp, hstate, BitVec.sub_sub]
  rfl

include hread

/-- A word pulled right after it was pushed comes back, and only memory tells of the two. -/
theorem pullWord_pushWord (w : Word) {t : State} (ht : t = pushWord w s) : pullWord t = (w, s.setMem t.mem) := by
  obtain ⟨hstate, -, hhi, hlo, -⟩ := pushWord_noHooks w hinv hwrite
  rw [← ht] at hstate hhi hlo
  have hsp : t.sp = s.sp - 2 := congrArg State.sp hstate
  have hslot : s.sp - 2 + 1 = s.sp - 1 := by bv_omega
  have hback : s.sp - 2 + 2 = s.sp := BitVec.sub_add_cancel _ _
  have hpull : pullWord t = (w, t.setSP (t.sp + 2)) :=
    pullWord_of_byteAt (by rw [hstate]; exact hread) (by rw [hsp, hslot, hlo]) (by rw [hsp, hback, hhi])
  rw [hpull, hsp, hback, hstate]
  rfl

/-- The return from the service undoes all of it but the bytes left in memory and the latch. -/
theorem returnFromInterrupt_takeNmi {t : State} (ht : t = takeNmi s) :
    returnFromInterrupt t = (s.setMem t.mem).setNmiPending false := by
  have hframe := push_pushWord_noHooks hinv hwrite (pack s.p s.params.bPushNmi) s.pc rfl
  have hservice := takeNmi_of_push hread rfl
  generalize push (pack s.p s.params.bPushNmi) (pushWord s.pc s) = r at hframe hservice
  obtain ⟨hstate, hstatus, hlo, hhi⟩ := hframe
  rw [← ht] at hservice
  have hbyte (a : Word) : t.byteAt a = r.byteAt a := by rw [hservice]; rfl
  have hsp : t.sp = s.sp - 3 := by rw [hservice, hstate]; rfl
  have hread' : t.params.readHooks = [] := by rw [hservice, hstate]; exact hread
  have hslot1 : s.sp - 3 + 1 = s.sp - 2 := by bv_omega
  have hslot2 : s.sp - 3 + 2 = s.sp - 1 := by bv_omega
  have hslot3 : s.sp - 3 + 3 = s.sp := BitVec.sub_add_cancel _ _
  rw [returnFromInterrupt_of_byteAt (f := s.p) hread' (by rw [hsp, hslot1, hbyte, hstatus])
    (by rw [hsp, hslot2, hbyte, hlo]) (by rw [hsp, hslot3, hbyte, hhi]), hsp, hslot3, hservice, hstate]
  rfl

end

/-- In a running state with the latch set the service is taken (60_exceptions R247). -/
theorem handleInterrupts_of_pending {s : State} (hrun : s.Running) (hpending : s.nmiPending = true) :
    handleInterrupts s = takeNmi s := by
  simp only [handleInterrupts, terminal_of_running hrun, hpending, if_true]

/-! ### The statements about stack and control flow -/

/-- Settles O29: both are by definition `implied` of one push or one pull. -/
theorem accumulatorPushAndPull : Obligations.AccumulatorPushAndPull := by
  refine ⟨fun s => ⟨rfl, rfl⟩, ?_, ?_⟩
  all_goals exact hasForms_of_opcodeMap (by decide +kernel)

/-- Settles O30: both are one push or one pull, and the status byte is R34's layout as a sum of bits. -/
theorem statusPushAndPull : Obligations.StatusPushAndPull := by
  refine ⟨fun s => ⟨?_, ?_⟩, pack_eq_statusByte, congrFun unpack_eq_flagsOfByte, rfl, ?_, ?_⟩
  · rw [← pack_eq_statusByte]
    rfl
  · rw [← unpack_eq_flagsOfByte]
    rfl
  all_goals exact hasForms_of_opcodeMap (by decide +kernel)

/-- Settles O31: the indirect jump is one `Read16Bug`, whose two reads O12 gives. -/
theorem jumpsSetPc : Obligations.JumpsSetPc := by
  obtain ⟨-, -, hbug⟩ := sixteenBitReadsAreTwoByteReads
  refine ⟨fun a s => rfl, fun a s => ?_, hasForms_of_opcodeMap (by decide +kernel)⟩
  calc exec (.jmpInd a) s = .next ((read16Bug a s).2.setPC (read16Bug a s).1) := rfl
    _ = _ := by
      rw [hbug a s]
      rfl

/-- Settles O32: JSR is one word pushed, high byte first, and RTS is one word pulled, low byte first, plus 1. -/
theorem subroutineCallAndReturn : Obligations.SubroutineCallAndReturn := by
  refine ⟨fun a s => ?_, fun s => ?_, ?_, ?_⟩
  · have hret : (s.pc + 2).toNat = (s.pc.toNat + 2) % 65536 := BitVec.toNat_add s.pc 2
    rw [exec_jsr, pushWord, loByte_eq_ofNat, hiByte_eq_ofNat, hret]
    rfl
  · intro lo hi
    rw [exec_rts, pullWord_eq_ofNat, BitVec.ofNat_add _ 1]
    rfl
  all_goals exact hasForms_of_opcodeMap (by decide +kernel)

/-- Settles O33: RTI is one byte pulled into the flags and one word pulled into PC; a pull leaves the flags
and the latch alone. -/
theorem returnFromInterruptPullsFlagsThenPc : Obligations.ReturnFromInterruptPullsFlagsThenPc := by
  refine ⟨fun s => ?_, fun s => ⟨returnFromInterrupt s, exec_rti s, ?_,
    (returnFromInterrupt_stepFrame s).nmiPending⟩, hasForms_of_opcodeMap (by decide +kernel)⟩
  · rw [exec_rti, ← unpack_eq_flagsOfByte, returnFromInterrupt, pullWord_eq_ofNat]
    rfl
  · rw [← unpack_eq_flagsOfByte, returnFromInterrupt, State.setPC_p, pullWord_p, State.setP_p]

/-- Settles O34: BRK leaves a terminal state, and the decoded interface puts PC back after NOP. -/
theorem breakHaltsAndNopOnlyAdvances : Obligations.BreakHaltsAndNopOnlyAdvances := by
  refine ⟨fun s => ⟨rfl, rfl⟩, fun s t u hfault hbrk => ?_, fun y s hrun => ?_, rfl, ?_, ?_⟩
  · cases hbrk
    have hterminal : terminal ((halt s).setPC (s.pc + s.params.brkAdvance)) = some .halted :=
      terminal_of_halted hfault rfl
    exact ⟨by rw [step_of_terminal hterminal]; nofun, handleInterrupts_of_terminal hterminal⟩
  · exact ⟨_, executeDecoded_of_instr (i := .nop) hrun rfl rfl, rfl, rfl⟩
  all_goals exact hasForms_of_opcodeMap (by decide +kernel)

/-- Settles O47: the byte pulled is the one pushed (O14), and unpacking it gives the flags back. -/
theorem phpThenPlpRestoresFlagsAndSp : Obligations.PhpThenPlpRestoresFlagsAndSp := by
  intro s hinv hread hwrite
  have hphp : exec .php s = .next (push (pack s.p s.params.bPushPhp) (s.setPC (s.pc + 1))) := rfl
  have hplp (t : State) : exec .plp t = .next (advance 1 ((pull t).2.setP (unpack (pull t).1))) := rfl
  obtain ⟨hpull, -⟩ := pullGivesBackThePushedByte _ (s.setPC (s.pc + 1)) hinv hread hwrite
  refine ⟨_, _, hphp, hplp _, ?_⟩
  rw [hpull, unpack_pack]
  exact ⟨rfl, rfl, BitVec.add_assoc s.pc 1 1, rfl⟩

/-- Settles O48: the word pulled is the one pushed, PC + 2, and RTS adds 1. -/
theorem rtsAfterJsrReturnsPastTheCall : Obligations.RtsAfterJsrReturnsPastTheCall := by
  intro a s hinv hread hwrite
  have hjsr : exec (.jsr a) s = .next (pushWord (s.pc + 2) (s.setPC a)) := exec_jsr a s
  obtain ⟨hstate, -⟩ := pushWord_noHooks (s.pc + 2) (s := s.setPC a) hinv hwrite
  refine ⟨_, _, hjsr, pushWord_pc _ _, congrArg State.sp hstate, exec_rts _, ?_⟩
  rw [pullWord_pushWord (s := s.setPC a) hinv hread hwrite _ rfl, BitVec.add_assoc]
  rfl

/-- Settles O49: RTI pulls the three bytes that the service pushed. -/
theorem rtiAfterTheNmiServiceResumes : Obligations.RtiAfterTheNmiServiceResumes := by
  intro s hinv hrun hpending hread hwrite
  exact ⟨_, exec_rti _, returnFromInterrupt_takeNmi hinv hread hwrite (handleInterrupts_of_pending hrun hpending)⟩

end Sys2Proof.Proofs
end

section
/-! PROOF. ADC and SBC: the binary and the decimal rules of the ALU as numbers, and the next states (48_arithmetic R231,
R232; 42_alu_and_flags R137 to R141). -/

namespace Sys2Proof.Proofs

open Sys2Proof Sys2Proof.Machine Sys2Proof.Claims

/-! ### Binary addition and subtraction -/

theorem signBit_eq_decide (v : Byte) : signBit v = decide (v.toInt < 0) := by
  rw [← BitVec.msb_eq_toInt, BitVec.msb_eq_getLsbD_last]
  rfl

/-- The exact sum and the signed sum narrow to the same byte. -/
theorem ofNat_sum_eq_ofInt (a m : Byte) (c : Nat) :
    BitVec.ofNat 8 (a.toNat + m.toNat + c) = BitVec.ofInt 8 (a.toInt + m.toInt + c) := by
  rw [BitVec.ofInt_add, BitVec.ofInt_add, BitVec.ofInt_toInt, BitVec.ofInt_toInt, BitVec.ofInt_natCast,
    BitVec.ofNat_add, BitVec.ofNat_add, BitVec.ofNat_toNat, BitVec.ofNat_toNat, BitVec.setWidth_eq, BitVec.setWidth_eq]

/-- The addends have one sign and the sum the other exactly when the signed sum leaves the range of a byte (R137). -/
theorem adcBin_v (a m : Byte) (c : Bool) :
    (adcBin a m c).v = decide (a.toInt + m.toInt + c.toNat < -128 ∨ 127 < a.toInt + m.toInt + c.toNat) := by
  have ha : -128 ≤ a.toInt ∧ a.toInt < 128 := ⟨a.le_toInt, a.toInt_lt⟩
  have hm : -128 ≤ m.toInt ∧ m.toInt < 128 := ⟨m.le_toInt, m.toInt_lt⟩
  have hc := Bool.toNat_le c
  simp only [adcBin, ofNat_sum_eq_ofInt, signBit_eq_decide, BitVec.toInt_ofInt, Int.bmod_def]
  rw [Bool.eq_iff_iff]
  simp only [Bool.and_eq_true, beq_iff_eq, bne_iff_ne, ne_eq, decide_eq_decide, decide_eq_true_eq]
  omega

/-- Binary addition, in the words of the statements (R137). -/
theorem adcBin_eq (a m : Byte) (c : Bool) :
    adcBin a m c =
      let sum := a.toNat + m.toNat + c.toNat
      let r := BitVec.ofNat 8 sum
      let signed : Int := a.toInt + m.toInt + c.toNat
      { r
        n := r.getLsbD 7
        v := decide (signed < -128 ∨ 127 < signed)
        z := decide (r = 0)
        c := decide (sum > 255) } := by
  dsimp only
  rw [← adcBin_v]
  rfl

theorem toInt_not_eq_neg_sub_one (m : Byte) : (~~~m).toInt = -m.toInt - 1 := by
  have hm := m.isLt
  rw [BitVec.toInt_eq_toNat_cond, BitVec.toInt_eq_toNat_cond, BitVec.toNat_not]
  omega

/-- Binary subtraction by its exact difference and its signed one: the exact sum with the complement is 256 more
(R138). -/
theorem sbcBin_eq {a m : Byte} {c : Bool} {diff signed : Int}
    (hdiff : (a.toNat : Int) - m.toNat - (1 - (c.toNat : Int)) = diff)
    (hsigned : a.toInt - m.toInt - (1 - (c.toNat : Int)) = signed) :
    sbcBin a m c =
      let r := BitVec.ofInt 8 diff
      { r
        n := r.getLsbD 7
        v := decide (signed < -128 ∨ 127 < signed)
        z := decide (r = 0)
        c := decide (0 ≤ diff) } := by
  obtain ⟨sum, hsum⟩ : ∃ sum, a.toNat + (~~~m).toNat + c.toNat = sum := ⟨_, rfl⟩
  have hexact : (sum : Int) = diff + 256 := by
    rw [BitVec.toNat_not] at hsum
    have hm := m.isLt
    omega
  have hsignedSum : a.toInt + (~~~m).toInt + c.toNat = signed := by
    rw [toInt_not_eq_neg_sub_one]
    omega
  have hcarry : sum > 255 ↔ 0 ≤ diff := by omega
  have hr : BitVec.ofNat 8 sum = BitVec.ofInt 8 diff :=
    calc BitVec.ofNat 8 sum = BitVec.ofInt 8 (diff + 256) := by rw [← hexact, BitVec.ofInt_natCast]
      _ = BitVec.ofInt 8 diff := (BitVec.ofInt_add diff 256).trans (BitVec.add_zero _)
  rw [sbcBin, adcBin_eq]
  simp only [hsum, hsignedSum, hcarry, hr]

/-! ### Decimal addition and subtraction -/

/-- Decimal addition, in the words of the statements (R139). -/
theorem adcDec_eq (a m : Byte) (c n v : Bool) :
    adcDec a m c n v =
      let lo := a.toNat % 16 + m.toNat % 16 + c.toNat
      let nc := if lo > 9 then 1 else 0
      let hi := a.toNat / 16 + m.toNat / 16 + nc
      let r := BitVec.ofNat 8 (16 * ((if hi > 9 then hi + 6 else hi) % 16) + (if lo > 9 then lo + 6 else lo) % 16)
      { r, n, v, z := decide (r = 0), c := decide (hi > 9) } := by
  simp only [Nat.mul_comm 16]
  rfl

/-- Decimal subtraction, in the words of the statements (R140). -/
theorem sbcDec_eq (a m : Byte) (c n v : Bool) :
    sbcDec a m c n v =
      let lo : Int := ((a.toNat % 16 : Nat) : Int) - ((m.toNat % 16 : Nat) : Int) - (1 - (c.toNat : Int))
      let nb : Int := if lo < 0 then 1 else 0
      let hi : Int := ((a.toNat / 16 : Nat) : Int) - ((m.toNat / 16 : Nat) : Int) - nb
      let r := BitVec.ofInt 8 (16 * ((if hi < 0 then hi - 6 else hi) % 16) + (if lo < 0 then lo - 6 else lo) % 16)
      { r, n, v, z := decide (r = 0), c := decide (0 ≤ hi) } := by
  simp only [Int.mul_comm 16]
  rfl

/-- The high column borrows nothing exactly when the whole subtraction borrows nothing (R140). -/
theorem highColumn_nonneg_iff (a m : Nat) (c : Bool) :
    0 ≤ ((a / 16 : Nat) : Int) - ((m / 16 : Nat) : Int) -
        (if ((a % 16 : Nat) : Int) - ((m % 16 : Nat) : Int) - (1 - (c.toNat : Int)) < 0 then 1 else 0) ↔
      m + (1 - c.toNat) ≤ a := by
  have hc := Bool.toNat_le c
  split <;> omega

/-! ### The operation on A -/

section
variable {s : State}

theorem adcOperand_of_binary (h : (s.p.d && s.params.decimalEnabled) = false) (m : Byte) :
    adcOperand m s = (s.setA (adcBin s.a m s.p.c).r).setP (s.p.setAlu (adcBin s.a m s.p.c)) :=
  if_neg (Bool.eq_false_iff.1 h)

theorem sbcOperand_of_binary (h : (s.p.d && s.params.decimalEnabled) = false) (m : Byte) :
    sbcOperand m s = (s.setA (sbcBin s.a m s.p.c).r).setP (s.p.setAlu (sbcBin s.a m s.p.c)) :=
  if_neg (Bool.eq_false_iff.1 h)

/-- In decimal mode N and V are the values drawn, which no statement fixes (R141). -/
theorem adcOperand_of_decimal (h : (s.p.d && s.params.decimalEnabled) = true) (m : Byte) :
    ∃ n v, adcOperand m s =
      ((s.setA (adcDec s.a m s.p.c n v).r).setP (s.p.setAlu (adcDec s.a m s.p.c n v))).setDraws (s.draws + 1) :=
  ⟨_, _, if_pos h⟩

theorem sbcOperand_of_decimal (h : (s.p.d && s.params.decimalEnabled) = true) (m : Byte) :
    ∃ n v, sbcOperand m s =
      ((s.setA (sbcDec s.a m s.p.c n v).r).setP (s.p.setAlu (sbcDec s.a m s.p.c n v))).setDraws (s.draws + 1) :=
  ⟨_, _, if_pos h⟩

/-- Reading an operand leaves the choice between binary and decimal as it was. -/
theorem readOperand_decimalMode (o : Operand) (s : State) :
    ((readOperand o s).2.p.d && (readOperand o s).2.params.decimalEnabled) = (s.p.d && s.params.decimalEnabled) := by
  rw [readOperand_p, readOperand_params]

end

/-! ### The statements about ADC and SBC -/

/-- Settles O35: ADC in binary mode is `adc_bin` of A, which the operand read leaves as it was, and the operand. -/
theorem binaryAdditionOfADC : Obligations.BinaryAdditionOfADC := by
  intro i s h hbinary
  obtain ⟨o, hmode, he⟩ := exec_of_operandAction h .adc s
  rw [adcOperand_of_binary ((readOperand_decimalMode o s).trans hbinary), readOperand_a, readOperand_p,
    adcBin_eq] at he
  exact ⟨o, hmode, he⟩

/-- Settles O36: SBC in binary mode is `sbc_bin`, the addition of the complement, whose exact sum is 256 more than the
exact difference. -/
theorem binarySubtractionOfSBC : Obligations.BinarySubtractionOfSBC := by
  intro i s h hbinary
  obtain ⟨o, hmode, he⟩ := exec_of_operandAction h .sbc s
  rw [sbcOperand_of_binary ((readOperand_decimalMode o s).trans hbinary), readOperand_a, readOperand_p,
    sbcBin_eq rfl rfl] at he
  exact ⟨o, hmode, he⟩

/-- Settles O37: ADC in decimal mode is `adc_dec`, with the two draws as N and V. -/
theorem decimalAdditionOfADC : Obligations.DecimalAdditionOfADC := by
  intro i s h hdecimal
  obtain ⟨o, hmode, he⟩ := exec_of_operandAction h .adc s
  obtain ⟨n, v, hadc⟩ := adcOperand_of_decimal ((readOperand_decimalMode o s).trans hdecimal) (readOperand o s).1
  rw [hadc, readOperand_a, readOperand_p, readOperand_draws, adcDec_eq] at he
  exact ⟨o, hmode, n, v, he⟩

/-- Settles O38: SBC in decimal mode is `sbc_dec`, with the two draws as N and V, and its carry is that of the binary
subtraction. -/
theorem decimalSubtractionOfSBC : Obligations.DecimalSubtractionOfSBC := by
  intro i s h hdecimal
  obtain ⟨o, hmode, he⟩ := exec_of_operandAction h .sbc s
  obtain ⟨n, v, hsbc⟩ := sbcOperand_of_decimal ((readOperand_decimalMode o s).trans hdecimal) (readOperand o s).1
  rw [hsbc, readOperand_a, readOperand_p, readOperand_draws, sbcDec_eq] at he
  exact ⟨o, hmode, n, v, decide_eq_decide.2 (highColumn_nonneg_iff _ _ _), he⟩

end Sys2Proof.Proofs
end

section
/-! PROOF. The NMI service: when it is taken, what it pushes and loads, and the bytes it leaves on the stack with no
hooks (60_exceptions R246 to R252). -/

namespace Sys2Proof.Proofs

open Sys2Proof Sys2Proof.Machine Sys2Proof.Claims

/-! ### The service -/

section
variable {s : State}

theorem handleInterrupts_of_not_pending (h : s.nmiPending = false) : handleInterrupts s = s := by
  unfold handleInterrupts
  split
  · rfl
  · exact if_neg (Bool.eq_false_iff.1 h)

theorem handleInterrupts_of_not_running (h : ¬ s.Running) : handleInterrupts s = s := by
  cases hterminal : terminal s with
  | none => exact absurd (terminal_eq_none_iff.1 hterminal) h
  | some f => exact handleInterrupts_of_terminal hterminal

end

/-- PC taken from a vector and the latch cleared, as two bus reads. The addresses are variables here: with the vector's
literals the kernel would compute the reads. -/
theorem setPC_readPair_setNmiPending (loAddr hiAddr : Word) (s : State) :
    ((readPair loAddr hiAddr s).2.setPC (readPair loAddr hiAddr s).1).setNmiPending false =
      let lo := busRead loAddr s
      let hi := busRead hiAddr lo.2
      { hi.2 with pc := BitVec.ofNat 16 (hi.1.toNat * 256 + lo.1.toNat), nmiPending := false } := by
  rw [readPair_eq_ofNat]
  rfl

/-- Settles O50: the service is the pushes, I and two reads at the vector, and it is taken only in a running state with
the latch set. -/
theorem nmiServiceTakesTheInterrupt : Obligations.NmiServiceTakesTheInterrupt := by
  refine ⟨fun s => rfl, fun s h => ?_, fun s hrun hpending => ?_, rfl⟩
  · obtain hclear | hterminal := h
    · exact handleInterrupts_of_not_pending hclear
    · exact handleInterrupts_of_not_running hterminal
  · rw [handleInterrupts_of_pending hrun hpending, takeNmi, pushWord, hiByte_eq_ofNat, loByte_eq_ofNat,
      pack_eq_statusByte]
    exact setPC_readPair_setNmiPending nmiVectorLo nmiVectorHi _

/-! ### The three bytes of the service -/

/-- The slot a byte below SP, by the number that the distance wraps to. -/
theorem ofNat_eq_stackSlot_sub (sp d : Byte) :
    BitVec.ofNat 16 (0x0100 + (sp.toNat + (-d).toNat) % 256) = stackSlot (sp - d) := by
  rw [stackSlot_eq, BitVec.sub_eq_add_neg, BitVec.toNat_add]

/-- An address above page 1 is no stack slot. -/
theorem ne_stackSlot {a : Word} (h : 512 ≤ a.toNat) (sp : Byte) : a ≠ stackSlot sp := by
  rintro rfl
  rw [stackSlot_toNat] at h
  exact absurd sp.isLt (by omega)

/-- A byte pushed after a word changes no byte but those of the three slots at SP and below. -/
theorem push_pushWord_byteAt_other (v : Byte) (w : Word) {s : State} (hinv : s.Inv) {a : Word}
    (h0 : a ≠ stackSlot s.sp) (h1 : a ≠ stackSlot (s.sp - 1)) (h2 : a ≠ stackSlot (s.sp - 2)) :
    (push v (pushWord w s)).byteAt a = s.byteAt a := by
  have hsp : (pushWord w s).sp = s.sp - 2 := by rw [pushWord_sp, BitVec.sub_sub]; rfl
  calc (push v (pushWord w s)).byteAt a = (pushWord w s).byteAt a :=
        push_byteAt_other v (pushWord_inv w hinv) (by rwa [hsp])
    _ = (push (hiByte w) s).byteAt a := push_byteAt_other _ (push_inv _ hinv) h1
    _ = s.byteAt a := push_byteAt_other _ hinv h0

/-- Settles O51: the service writes memory by its pushes only, and its vector lies above the stack page. -/
theorem nmiServiceLeavesThreeStackBytes : Obligations.NmiServiceLeavesThreeStackBytes := by
  intro s hinv hrun hpending hread hwrite t slot
  have hslot0 : slot 0 = stackSlot s.sp :=
    (ofNat_eq_stackSlot_sub s.sp 0).trans (congrArg stackSlot (BitVec.sub_zero _))
  have hslot1 : slot 255 = stackSlot (s.sp - 1) := ofNat_eq_stackSlot_sub s.sp 1
  have hslot2 : slot 254 = stackSlot (s.sp - 2) := ofNat_eq_stackSlot_sub s.sp 2
  obtain ⟨r, hr⟩ : ∃ r, r = push (pack s.p s.params.bPushNmi) (pushWord s.pc s) := ⟨_, rfl⟩
  obtain ⟨hstate, hstatus, hlo, hhi⟩ := push_pushWord_noHooks hinv hwrite _ _ hr
  have hother {a : Word} := push_pushWord_byteAt_other (pack s.p s.params.bPushNmi) s.pc hinv (a := a)
  rw [← hr] at hother
  have hvector {a : Word} (ha : 512 ≤ a.toNat) : r.byteAt a = s.byteAt a :=
    hother (ne_stackSlot ha _) (ne_stackSlot ha _) (ne_stackSlot ha _)
  have ht : t = ((r.setP { r.p with i := true }).setPC
      (wordOf (s.byteAt nmiVectorHi) (s.byteAt nmiVectorLo))).setNmiPending false := by
    rw [← hvector (a := nmiVectorHi) (by decide), ← hvector (a := nmiVectorLo) (by decide)]
    exact (handleInterrupts_of_pending hrun hpending).trans (takeNmi_of_push hread hr)
  have hbyte (a : Word) : t.byteAt a = r.byteAt a := by rw [ht]; rfl
  simp only [hslot0, hslot1, hslot2, hbyte]
  refine ⟨?_, ?_, ?_, fun a => hother, ?_⟩
  · rw [hhi, hiByte_toNat]
  · rw [hlo, loByte_toNat]
  · rw [hstatus, pack_eq_statusByte]
  · rw [ht, hstate, wordOf_eq_ofNat]
    rfl

end Sys2Proof.Proofs
end

section
/-! PROOF. The two recorded faults, the terminal states, and memory at reset (60_exceptions R242, R243, R259, R260,
70_reset_and_hazards R266). -/

namespace Sys2Proof.Proofs

open Sys2Proof Sys2Proof.Machine Sys2Proof.Claims

/-! ### An illegal opcode byte -/

theorem formOf_eq_none_iff {op : Byte} : formOf op = none ↔ op ∈ illegalBytes := by
  rw [← Option.isNone_iff_eq_none, formOf_isNone_eq, decide_eq_true_iff]

/-- At an illegal byte the fetch ends with the read of that byte (R242). -/
theorem fetchDecode_illegal {s : State} (h : (opcodeRead s).1 ∈ illegalBytes) :
    fetchDecode s = .illegal (opcodeRead s).1 (opcodeRead s).2 := by
  have hform := formOf_eq_none_iff.2 h
  unfold opcodeRead at hform
  simp only [fetchDecode, hform]
  rfl

theorem illegalOpcode_of_fault {op : Byte} {s : State} (h : s.params.illegalOpcode = .fault) :
    illegalOpcode op s = .next { s with fault := some (.illegalOpcode op s.pc) } := by
  simp only [illegalOpcode, h]
  rfl

theorem illegalOpcode_of_nop1 {op : Byte} {s : State} (h : s.params.illegalOpcode = .nop1) :
    illegalOpcode op s = .next { s with pc := s.pc + 1 } := by
  simp only [illegalOpcode, h]
  rfl

/-- The step at an illegal byte, under each policy (R242). -/
theorem step_of_illegalByte {s : State} (hrun : s.Running) (h : (opcodeRead s).1 ∈ illegalBytes) :
    (s.params.illegalOpcode = .fault →
      step s = .next { (opcodeRead s).2 with fault := some (.illegalOpcode (opcodeRead s).1 s.pc) }) ∧
    (s.params.illegalOpcode = .nop1 → step s = .next { (opcodeRead s).2 with pc := s.pc + 1 }) := by
  rw [step_of_illegal hrun (fetchDecode_illegal h)]
  exact ⟨fun hpolicy => illegalOpcode_of_fault hpolicy, fun hpolicy => illegalOpcode_of_nop1 hpolicy⟩

/-- Settles O9: the step is the read of the opcode byte and then the policy's effect. -/
theorem illegalOpcodeRecordsTheFault : Obligations.IllegalOpcodeRecordsTheFault := by
  refine ⟨fun s hrun => ?_, fun s hrun hread h => ?_⟩
  · rw [ofNat_toNat_add]
    intro op h
    exact step_of_illegalByte hrun h
  · have hop := opcodeRead_noHooks hread
    have hstep := step_of_illegalByte hrun (by rwa [hop])
    rw [hop] at hstep
    exact hstep

/-! ### A label without a value -/

theorem executeDecoded_of_unresolved {y : Symbols} {mn : Mnemonic} {sm : SymMode} {l : String} {s : State}
    (hrun : s.Running) (h : resolvePair y mn sm = .unresolved l) :
    executeDecoded y mn sm s = .next { s with fault := some (.unresolvedLabel l), started := true } := by
  simp only [executeDecoded, terminal_of_running hrun, h]
  rfl

/-- The symbolic modes that name a label. -/
def labelModes (l : String) (off : Option Int) : List SymMode :=
  [.direct l off, .directIndexedX l off, .directIndexedY l off, .indirectIndexedX l, .indirectIndexedY l,
    .indirectAbsolute l, .immediate16Low (.label l), .immediate16High (.label l)]

section
variable {l : String} {off : Option Int} {sm : SymMode}

theorem nameOf_of_mem_labelModes (h : sm ∈ labelModes l off) : nameOf sm = l := by
  simp only [labelModes, List.mem_cons, List.not_mem_nil, or_false] at h
  obtain rfl | rfl | rfl | rfl | rfl | rfl | rfl | rfl := h <;> rfl

theorem valueOf_of_mem_labelModes {y : Symbols} (h : sm ∈ labelModes l off) (hl : y.labels.lookup l = none) :
    valueOf y sm = none := by
  simp only [labelModes, List.mem_cons, List.not_mem_nil, or_false] at h
  obtain rfl | rfl | rfl | rfl | rfl | rfl | rfl | rfl := h <;> simp only [valueOf, hl, Option.map_none]

/-- A label without a value makes no mode eligible for the zero page (R87). -/
theorem symEligible_of_mem_labelModes {table : List (String × Int)} (h : sm ∈ labelModes l off)
    (hl : table.lookup l = none) : symEligible table sm = false := by
  simp only [labelModes, List.mem_cons, List.not_mem_nil, or_false] at h
  obtain rfl | rfl | rfl | rfl | rfl | rfl | rfl | rfl := h <;> simp only [symEligible, hl]

end

/-- Settles O59: a label without a value is what the pair resolves to, and execution records it before any effect. -/
theorem unresolvedLabelRecordsTheFault : Obligations.UnresolvedLabelRecordsTheFault := by
  intro y mn l off sm s hrun hlabel hmode
  refine ⟨executeDecoded_of_unresolved hrun ?_, fun hconst => ?_⟩
  · have hpair := resolvePair_of_unresolved
      (resolveMode_of_no_value (mn := mn) (valueOf_of_mem_labelModes hmode hlabel))
    rwa [nameOf_of_mem_labelModes hmode] at hpair
  · rw [sizeCalc, symEligible_of_mem_labelModes hmode hconst]

/-! ### Terminal states and reset -/

theorem loadItem_halted (q : LoadItem) (s : State) : (loadItem q s).halted = s.halted := by
  cases q <;> rfl

theorem loadItem_fault (q : LoadItem) (s : State) : (loadItem q s).fault = s.fault := by
  cases q <;> rfl

/-- Settles O53: a step and a decoded pair answer in running states only, the service does nothing in a terminal state,
and the latch, a load and a snapshot touch neither field. -/
theorem haltAndFaultEndOnlyWithResetOrANewRun : Obligations.HaltAndFaultEndOnlyWithResetOrANewRun := by
  intro act s t hterminal h hreset hcreate
  cases act with
  | create image params => exact absurd rfl (hcreate image params)
  | reset => exact absurd rfl hreset
  | load q =>
    obtain ⟨-, rfl⟩ := hostAct_load_next h
    exact ⟨loadItem_halted q s, loadItem_fault q s⟩
  | step =>
    obtain ⟨hrun, -⟩ := step_next h
    exact absurd hrun hterminal
  | executeDecoded y mn sm =>
    obtain ⟨hrun, -⟩ := executeDecoded_next h
    exact absurd hrun hterminal
  | handleInterrupts =>
    cases h
    rw [handleInterrupts_of_not_running hterminal]
    exact ⟨rfl, rfl⟩
  | triggerNmi | snapshot =>
    cases h
    exact ⟨rfl, rfl⟩

/-- Settles O57: memory at reset lists nothing, and an image is placed byte by byte. -/
theorem resetMemoryIsCanonical : Obligations.ResetMemoryIsCanonical := ⟨rfl, create_inv⟩

end Sys2Proof.Proofs
end
